-- ==== Sys2Proof/Word.lean ====
section
/-! DEFINITION. The value types of rule R16: bytes, 6-bit alphabet values and 9-bit counters. -/

namespace Sys2Proof

/-- A byte: a register's content, a disk byte ("nibble") of the stream, a payload byte (R8, R14). -/
abbrev Byte := BitVec 8

/-- A 6-bit value: what a disk byte of the 6-and-2 alphabet stands for, and the running checksum (R8, R16). -/
abbrev Sym := BitVec 6

/-- A 9-bit value: the D62_IDX counter and the index of an invalid nibble (R16, R43, R62). -/
abbrev Idx := BitVec 9

end Sys2Proof
end

