-- ==== Sys2Proof/Config.lean ====
section
/-! DEFINITION. What is fixed for the block (rule R6) and the values the spec leaves free (rule R253). -/

namespace Sys2Proof

/-- The values of the OPEN parameter P_TRAILING_INVALID (R6, 92 D10): the failure RDSEC step 9 reports for a trailing
checksum nibble outside the alphabet. -/
inductive TrailingInvalid where
  | dataChecksumMismatch
  | corruptSectorData
  deriving DecidableEq, Repr

/-- N_DATA, the data nibbles of a data field (R6). -/
abbrev Config.nData : Nat := 342

/-- N_TWOS, the auxiliary nibbles among them (R6). -/
abbrev Config.nTwos : Nat := 86

/-- N_PAYLOAD, the bytes of a sector (R6). -/
abbrev Config.nPayload : Nat := 256

/-- SYNC_BYTE, not configurable (R6, R32). -/
abbrev Config.syncByte : Byte := 0xFF#8

/-- P_WINDOW of this hardware (R6). State holds the parameter, so that statements range over all its values. -/
abbrev Config.defaultWindow : Byte := 20#8

/-- The default of P_TRAILING_INVALID (R6). State holds the parameter, so that statements range over both values. -/
abbrev Config.defaultTrailingInvalid : TrailingInvalid := .dataChecksumMismatch

/-- FREE VALUE (R253, 93 U3): what the n-th assertion of `rst` leaves in the PAYLOAD entry at an index that a decode had
written before. Nothing constrains it; it may be the old content or any other byte. -/
opaque Config.freePayload : Nat → Nat → Byte

/-- FREE VALUE (R253, 93 U4): what the n-th assertion of `rst` leaves in an entry of TWOS. -/
opaque Config.freeTwos : Nat → Nat → Sym

/-- FREE VALUE (R64, R264, 93 U12): the byte at a position of an endless stream, by the number of the stream. Nothing constrains
it, so that what holds of it holds of every endless sequence of bytes. -/
opaque Config.freeNibble : Nat → Nat → Byte

end Sys2Proof
end

