-- ==== Sys2Proof/Syntax.lean ====
section
/-! DEFINITION. The commands of the block: one constructor per row of spec/opcode_table.json, and the fields of a command
byte (rules R102 and R103). -/

namespace Sys2Proof

/-- The 19 legal commands (R107). No command has an operand: each is one whole byte. -/
inductive Instr where
  | nop | rdsec | d44 | l62 | d62
  | seekApro | seekAepi | seekDpro | seekDepi | seekSync
  | bsrchApro | bsrchAepi | bsrchDpro | bsrchDepi | bsrchSync
  | skip | cka | ckd | ckt
  deriving DecidableEq, Repr

/-- The patterns a matcher command can select (R101). -/
inductive Pattern where
  | apro | aepi | dpro | depi | sync
  deriving DecidableEq, Repr

/-- A command byte as R102 divides it: bit 7 reserved, bits 6:4 MSEL, bits 3:0 OP. -/
structure CommandWord where
  reserved : BitVec 1
  msel     : BitVec 3
  op       : BitVec 4
  deriving DecidableEq, Repr

/-- Why a command byte is no command: the conditions (a) to (d) of R104, and a byte sequence with no byte in it. -/
inductive Illegal where
  | reservedBit
  | reservedOp
  | mselNotZero
  | reservedMsel
  | noByte
  deriving DecidableEq, Repr

/-- Every command, in the order of R103 and of the opcode table. -/
def Instr.all : List Instr :=
  [.nop, .rdsec, .d44, .l62, .d62] ++
  [.seekApro, .seekAepi, .seekDpro, .seekDepi, .seekSync] ++
  [.bsrchApro, .bsrchAepi, .bsrchDpro, .bsrchDepi, .bsrchSync] ++
  [.skip, .cka, .ckd, .ckt]

/-- A streaming command (R25, R103): it runs one step per nibble after its acceptance. -/
def Instr.streaming : Instr → Bool
  | .nop => false
  | .rdsec => true
  | .d44 => false
  | .l62 => false
  | .d62 => true
  | .seekApro => true
  | .seekAepi => true
  | .seekDpro => true
  | .seekDepi => true
  | .seekSync => true
  | .bsrchApro => true
  | .bsrchAepi => true
  | .bsrchDpro => true
  | .bsrchDepi => true
  | .bsrchSync => true
  | .skip => true
  | .cka => false
  | .ckd => false
  | .ckt => false

end Sys2Proof
end

