-- ==== Sys2Proof/WellFormed.lean ====
section
/-! DEFINITION. Which command words are well formed: the four conditions of rule R104, each as a check of its own.
A term of Instr has no operand, so every one of them is well formed; the checks are about the raw word of R102. -/

namespace Sys2Proof

/-- R104 (a): the reserved bit 7 is 0. -/
def CommandWord.reservedClear (w : CommandWord) : Bool := w.reserved == 0#1

/-- R104 (b): OP is none of 0xB..0xF. -/
def CommandWord.opDefined (w : CommandWord) : Bool := w.op.toNat ≤ 0xA

/-- SEEK (OP 0x5) and BSRCH (OP 0x6) are the commands that use MSEL (R102, R103). -/
def CommandWord.usesMsel (w : CommandWord) : Bool := w.op == 0x5#4 || w.op == 0x6#4

/-- R104 (c): MSEL is 0 unless OP is SEEK or BSRCH. -/
def CommandWord.mselUnusedClear (w : CommandWord) : Bool := w.usesMsel || w.msel == 0#3

/-- R104 (d): MSEL is 0..4 when OP is SEEK or BSRCH. -/
def CommandWord.mselDefined (w : CommandWord) : Bool := !w.usesMsel || w.msel.toNat ≤ 4

/-- A command word that R104 does not call illegal. -/
def CommandWord.wellFormed (w : CommandWord) : Bool :=
  w.reservedClear && w.opDefined && w.mselUnusedClear && w.mselDefined

end Sys2Proof
end

