-- ==== Sys2Proof/Decode.lean ====
section
/-! DEFINITION. The command byte read as a command (rules R101 to R107), total on any bytes and rejecting by name, and the
encoder written from the same tables. -/

namespace Sys2Proof

/-- The fields of a command byte (R102). -/
def commandFields (b : Byte) : CommandWord :=
  { reserved := b.extractLsb' 7 1, msel := b.extractLsb' 4 3, op := b.extractLsb' 0 4 }

/-- The byte with the given fields (R102). -/
def commandByte (w : CommandWord) : Byte := w.reserved ++ w.msel ++ w.op

/-- The pattern an MSEL value selects (R101); 5..7 are reserved. -/
def decodePattern (msel : BitVec 3) : Except Illegal Pattern :=
  match msel.toNat with
  | 0 => .ok .apro
  | 1 => .ok .aepi
  | 2 => .ok .dpro
  | 3 => .ok .depi
  | 4 => .ok .sync
  | _ => .error .reservedMsel

/-- SEEK for each pattern (R103, R107). -/
def seekOf : Pattern → Instr
  | .apro => .seekApro
  | .aepi => .seekAepi
  | .dpro => .seekDpro
  | .depi => .seekDepi
  | .sync => .seekSync

/-- BSRCH for each pattern (R103, R107). -/
def bsrchOf : Pattern → Instr
  | .apro => .bsrchApro
  | .aepi => .bsrchAepi
  | .dpro => .bsrchDpro
  | .depi => .bsrchDepi
  | .sync => .bsrchSync

/-- A command that does not use MSEL is legal with MSEL 0 only (R104 c). -/
def withoutMsel (msel : BitVec 3) (i : Instr) : Except Illegal Instr :=
  if msel = 0#3 then .ok i else .error .mselNotZero

/-- The operation an OP value selects (R103), with the MSEL field it stands beside. -/
def decodeOp (op : BitVec 4) (msel : BitVec 3) : Except Illegal Instr :=
  match op.toNat with
  | 0x0 => withoutMsel msel .nop
  | 0x1 => withoutMsel msel .rdsec
  | 0x2 => withoutMsel msel .d44
  | 0x3 => withoutMsel msel .l62
  | 0x4 => withoutMsel msel .d62
  | 0x5 => (decodePattern msel).map seekOf
  | 0x6 => (decodePattern msel).map bsrchOf
  | 0x7 => withoutMsel msel .skip
  | 0x8 => withoutMsel msel .cka
  | 0x9 => withoutMsel msel .ckd
  | 0xA => withoutMsel msel .ckt
  | _ => .error .reservedOp

/-- The command a byte stands for, or the condition of R104 that makes it illegal. -/
def decodeByte (b : Byte) : Except Illegal Instr :=
  let w := commandFields b
  if w.reserved = 0#1 then decodeOp w.op w.msel else .error .reservedBit

/-- A command is one byte (R102, R106): the command at the head of a byte sequence, with the rest of the sequence. -/
def decode : List Byte → Except Illegal (Instr × List Byte)
  | [] => .error .noByte
  | b :: rest => (decodeByte b).map fun i => (i, rest)

/-- The bytes of a table word, the first at the lowest place: bit 0 of the word is bit 0 of the first byte. -/
def tableBytes (nbits w : Nat) : List Byte :=
  (List.range (max 1 ((nbits + 7) / 8))).map fun k => BitVec.ofNat 8 (w >>> (8 * k))

/-- The instruction the decoder reads from a table word. Every row of the table is one byte long. -/
def decodeTableWord (nbits w : Nat) : Option Instr :=
  (decode (tableBytes nbits w)).toOption.map Prod.fst

/-- The OP code of a command (R103). -/
def Instr.op : Instr → BitVec 4
  | .nop => 0x0
  | .rdsec => 0x1
  | .d44 => 0x2
  | .l62 => 0x3
  | .d62 => 0x4
  | .seekApro => 0x5
  | .seekAepi => 0x5
  | .seekDpro => 0x5
  | .seekDepi => 0x5
  | .seekSync => 0x5
  | .bsrchApro => 0x6
  | .bsrchAepi => 0x6
  | .bsrchDpro => 0x6
  | .bsrchDepi => 0x6
  | .bsrchSync => 0x6
  | .skip => 0x7
  | .cka => 0x8
  | .ckd => 0x9
  | .ckt => 0xA

/-- The MSEL field of a command (R101; 0 where R102 asks for 0). -/
def Instr.msel : Instr → BitVec 3
  | .nop => 0
  | .rdsec => 0
  | .d44 => 0
  | .l62 => 0
  | .d62 => 0
  | .seekApro => 0
  | .seekAepi => 1
  | .seekDpro => 2
  | .seekDepi => 3
  | .seekSync => 4
  | .bsrchApro => 0
  | .bsrchAepi => 1
  | .bsrchDpro => 2
  | .bsrchDepi => 3
  | .bsrchSync => 4
  | .skip => 0
  | .cka => 0
  | .ckd => 0
  | .ckt => 0

/-- The command byte of a command (R107). -/
def encodeByte (i : Instr) : Byte := commandByte { reserved := 0#1, msel := i.msel, op := i.op }

/-- The words of an instruction: one byte. -/
def encode (i : Instr) : List Byte := [encodeByte i]

end Sys2Proof
end

