-- ==== Sys2Proof/Machine/State.lean ====
section
/-! DEFINITION. The state of the block (rules R20 to R49), of its stream port (R64, R65) and of the host's side of the
interface (R71), as plain data; why a step can stop; the state after reset (R48). -/

namespace Sys2Proof.Machine

/-- The failure kinds of R113, with `ok` for success. Code 15 is reserved and never produced, so it has no constructor. -/
inductive Kind where
  | ok
  | trackMismatch
  | addrChecksumMismatch
  | addrEpilogueNotFound
  | dataSyncNotFound
  | dataPrologueNotFound
  | corruptSectorData
  | dataChecksumMismatch
  | dataEpilogueNotFound
  | addrPrologueNotFound
  | streamExhausted
  | invalidEncodedByte
  | markerNotFound
  | compareMismatch
  | illegalCommand
  deriving DecidableEq, Repr

/-- The severities of R114. -/
inductive Severity where
  | none
  | sector
  | track
  | command
  deriving DecidableEq, Repr

/-- The phases of R38: the purpose of the next nibble the block will consume. -/
inductive Phase where
  | idle
  | aPro | aVol | aTrk | aSec | aChk | aEpi | aEpi3
  | dSync | dPro | dData | dChk | dEpi | dEpi3
  | xSeek | xBsrch | xSkip | xD62
  deriving DecidableEq, Repr

/-- What the cursor can offer at one `Next()` (R64): a byte, the end of the stream, or nothing yet. -/
inductive Offer where
  | nibble (b : Byte)
  | eos
  | nothing
  deriving DecidableEq, Repr

/-- What the cursor does when its listed offers are used up (R64, R264): it offers nothing yet; it loops over a track for ever, a
byte and those after it; or it goes on for ever with any bytes, those of the endless stream numbered `number` from a position on. -/
inductive Tail where
  | waits
  | loops (first : Byte) (more : List Byte)
  | free (number position : Nat)
  deriving DecidableEq, Repr

/-- The agent behind the stream port (R15, R64): the offers it will make, the next one first, and how it goes on after them. -/
structure Cursor where
  offers : List Offer
  tail : Tail
  deriving DecidableEq, Repr

/-- An event of the total order of R71: a host write or read of one byte at an index of the register space (R60), the
assertion of `rst` (R250), the connection of a stream to the port (R65, R254), or a turn of the block (R15). -/
inductive Event where
  | write (index : Nat) (value : Byte)
  | read (index : Nat)
  | reset
  | connect (cursor : Cursor)
  | turn
  deriving DecidableEq, Repr

/-- The payload buffer: (register index, byte) pairs, the indices strictly rising. An index not listed has never been written
since power-up and holds no value the model knows (R253). -/
abbrev Memory := List Host.Cell

/-- The state. -/
structure State where
  /-- CMD (R23). -/
  cmd : Byte
  /-- STATUS.BUSY (R25). -/
  busy : Bool
  /-- STATUS.DONE (R26). -/
  done : Bool
  /-- STATUS.OK (R27). -/
  ok : Bool
  /-- STATUS.WBUSY (R28). -/
  wbusy : Bool
  /-- STATUS.SEV (R29). -/
  sev : Severity
  /-- KIND (R30). -/
  kind : Kind
  /-- RES (R31). -/
  res : Byte
  /-- OPA (R34). -/
  opa : Byte
  /-- OPB (R34). -/
  opb : Byte
  /-- OPC (R34). -/
  opc : Byte
  /-- OPD (R34). -/
  opd : Byte
  /-- CFG_TRACK (R33). -/
  cfgTrack : Byte
  /-- CFG_APRO0 (R32). -/
  cfgApro0 : Byte
  /-- CFG_APRO1 (R32). -/
  cfgApro1 : Byte
  /-- CFG_APRO2 (R32). -/
  cfgApro2 : Byte
  /-- CFG_AEPI0 (R32). -/
  cfgAepi0 : Byte
  /-- CFG_AEPI1 (R32). -/
  cfgAepi1 : Byte
  /-- CFG_AEPI2 (R32): stored, never matched. -/
  cfgAepi2 : Byte
  /-- CFG_DPRO0 (R32). -/
  cfgDpro0 : Byte
  /-- CFG_DPRO1 (R32). -/
  cfgDpro1 : Byte
  /-- CFG_DPRO2 (R32). -/
  cfgDpro2 : Byte
  /-- CFG_DEPI0 (R32). -/
  cfgDepi0 : Byte
  /-- CFG_DEPI1 (R32). -/
  cfgDepi1 : Byte
  /-- CFG_DEPI2 (R32): stored, never matched. -/
  cfgDepi2 : Byte
  /-- AF_VOL (R35). -/
  afVol : Byte
  /-- AF_TRK (R35). -/
  afTrk : Byte
  /-- AF_SEC (R35). -/
  afSec : Byte
  /-- AF_CHK (R35). -/
  afChk : Byte
  /-- D62_CHK bits 5:0 (R36). -/
  d62Chk : Sym
  /-- INV_BYTE (R37). -/
  invByte : Byte
  /-- The index held by INV_IDX_LO and INV_IDX_HI bit 0 (R37). -/
  invIdx : Idx
  /-- The INV flag, INV_IDX_HI bit 7 (R37). -/
  inv : Bool
  /-- PHASE (R38). -/
  phase : Phase
  /-- PAYLOAD (R39), at indices 0x100..0x1FF (R61). -/
  payload : Memory
  /-- TWOS (R40). -/
  twos : Vector Sym 86
  /-- WIN (R41), the oldest nibble first. -/
  win : List Byte
  /-- WCNT (R41). -/
  wcnt : Byte
  /-- HI (R42). -/
  hi : Byte
  /-- DEDUCED (safe) from the two steps of R170: HI holds the first nibble of the pair being read. -/
  hiHeld : Bool
  /-- D62_IDX (R43). -/
  d62Idx : Idx
  /-- The parameter P_WINDOW (R6). No step writes it. -/
  window : Byte
  /-- The parameter P_TRAILING_INVALID (R6). No step writes it. -/
  trailingInvalid : TrailingInvalid
  /-- The cursor connected to the stream port, as far as it has been read (R64). -/
  stream : Cursor
  /-- The events still to happen, the next one first (R71). None listed: the block runs on by itself. -/
  agenda : List Event
  /-- The model's own record of the host's reads, newest first: the index and the byte returned. -/
  reads : List (Nat × Byte)
  /-- The model's own counter of draws, which the free values are applied to. -/
  draws : Nat
  deriving DecidableEq, Repr

/-- Why the machine stops. -/
inductive Fault where
  /-- Raised by a host read of a PAYLOAD entry that no decode has written since power-up (R253, 90 C6). SAFE: the hardware
  returns some byte, and the model claims none. -/
  | payloadUnwritten (index : Nat)
  deriving DecidableEq, Repr

/-- Why an event has no meaning. -/
inductive Refusal where
  /-- Raised by an arm of exec whose instruction has no meaning yet. SAFE: nothing is claimed about it. -/
  | notModelled (mnemonic : String)
  /-- Raised by a host read or write at an index of 0x200 or above, which does not exist: "an access there is outside the
  interface, and a model refuses it" (R60). SAFE: nothing is claimed about it. -/
  | indexOutsideSpace (index : Nat)
  deriving DecidableEq, Repr

/-- The state after reset (R48). DESIGN CHOICE (unsafe): TWOS, whose reset value the spec leaves unspecified, is 0 (log 4).
DESIGN CHOICE (safe): no entry of PAYLOAD has a value (log 3), the host and the stream have nothing to offer (log 1, log 2). -/
def State.reset : State where
  cmd := 0x00
  busy := false
  done := false
  ok := false
  wbusy := false
  sev := .none
  kind := .ok
  res := 0x00
  opa := 0x00
  opb := 0x00
  opc := 0x00
  opd := 0x00
  cfgTrack := 0x00
  cfgApro0 := 0xD5
  cfgApro1 := 0xAA
  cfgApro2 := 0x96
  cfgAepi0 := 0xDE
  cfgAepi1 := 0xAA
  cfgAepi2 := 0xEB
  cfgDpro0 := 0xD5
  cfgDpro1 := 0xAA
  cfgDpro2 := 0xAD
  cfgDepi0 := 0xDE
  cfgDepi1 := 0xAA
  cfgDepi2 := 0xEB
  afVol := 0x00
  afTrk := 0x00
  afSec := 0x00
  afChk := 0x00
  d62Chk := 0x00
  invByte := 0x00
  invIdx := 0
  inv := false
  phase := .idle
  payload := []
  twos := Vector.replicate 86 0
  win := []
  wcnt := 0
  hi := 0x00
  hiHeld := false
  d62Idx := 0
  window := Config.defaultWindow
  trailingInvalid := Config.defaultTrailingInvalid
  stream := { offers := [], tail := .waits }
  agenda := []
  reads := []
  draws := 0

end Sys2Proof.Machine
end

