-- ==== Sys2Proof/Machine/Flags.lean ====
section
/-! DEFINITION. The codes of the failure kinds (R113), severities (R114, R115) and phases (R38), and the register bytes made
of flags: STATUS (R24), KIND (R30), D62_CHK (R36), INV_IDX_LO and INV_IDX_HI (R37), PHASE (R38). -/

namespace Sys2Proof.Machine

/-- The code of a failure kind (R113). -/
def kindCode : Kind → BitVec 4
  | .ok => 0
  | .trackMismatch => 1
  | .addrChecksumMismatch => 2
  | .addrEpilogueNotFound => 3
  | .dataSyncNotFound => 4
  | .dataPrologueNotFound => 5
  | .corruptSectorData => 6
  | .dataChecksumMismatch => 7
  | .dataEpilogueNotFound => 8
  | .addrPrologueNotFound => 9
  | .streamExhausted => 10
  | .invalidEncodedByte => 11
  | .markerNotFound => 12
  | .compareMismatch => 13
  | .illegalCommand => 14

/-- The code of a severity (R114). -/
def severityCode : Severity → BitVec 2
  | .none => 0
  | .sector => 1
  | .track => 2
  | .command => 3

/-- The severity of a failure kind (R115). -/
def kindSeverity : Kind → Severity
  | .ok => .none
  | .trackMismatch => .sector
  | .addrChecksumMismatch => .sector
  | .addrEpilogueNotFound => .sector
  | .dataSyncNotFound => .sector
  | .dataPrologueNotFound => .sector
  | .corruptSectorData => .sector
  | .dataChecksumMismatch => .sector
  | .dataEpilogueNotFound => .sector
  | .addrPrologueNotFound => .track
  | .streamExhausted => .track
  | .invalidEncodedByte => .command
  | .markerNotFound => .command
  | .compareMismatch => .command
  | .illegalCommand => .command

/-- The code of a phase (R38). -/
def phaseCode : Phase → Byte
  | .idle => 0
  | .aPro => 1
  | .aVol => 2
  | .aTrk => 3
  | .aSec => 4
  | .aChk => 5
  | .aEpi => 6
  | .aEpi3 => 7
  | .dSync => 8
  | .dPro => 9
  | .dData => 10
  | .dChk => 11
  | .dEpi => 12
  | .dEpi3 => 13
  | .xSeek => 14
  | .xBsrch => 15
  | .xSkip => 16
  | .xD62 => 17

/-- The failure P_TRAILING_INVALID stands for (R6, R177). -/
def trailingInvalidKind : TrailingInvalid → Kind
  | .dataChecksumMismatch => .dataChecksumMismatch
  | .corruptSectorData => .corruptSectorData

/-- STATUS (R24): reserved 7:6, SEV 5:4, WBUSY 3, OK 2, DONE 1, BUSY 0. -/
def statusByte (s : State) : Byte :=
  0#2 ++ severityCode s.sev ++ BitVec.ofBool s.wbusy ++ BitVec.ofBool s.ok ++ BitVec.ofBool s.done ++ BitVec.ofBool s.busy

/-- KIND (R30): the code in 3:0, 7:4 read 0. -/
def kindByte (s : State) : Byte := (kindCode s.kind).setWidth 8

/-- D62_CHK (R36): the running checksum in 5:0, 7:6 read 0. -/
def d62ChkByte (s : State) : Byte := s.d62Chk.setWidth 8

/-- INV_IDX_LO (R37): bits 7:0 of the index. -/
def invIdxLo (s : State) : Byte := s.invIdx.extractLsb' 0 8

/-- INV_IDX_HI (R37): the INV flag in bit 7, bit 8 of the index in bit 0, bits 6:1 read 0. -/
def invIdxHi (s : State) : Byte := BitVec.ofBool s.inv ++ 0#6 ++ s.invIdx.extractLsb' 8 1

/-- The `done` output, at every moment STATUS.DONE (R49, R230). -/
def State.doneOutput (s : State) : Bool := s.done

end Sys2Proof.Machine
end

