-- ==== Sys2Proof/Machine/Units.lean ====
section
/-! DEFINITION. The combinational units as functions: the 4-and-4 decoder D44 (R131), the alphabet lookup L62 (R95, R134),
the 6-and-2 decoder D62 as a function of its 342 nibbles (R140) and the comparators of the checksum validator CV
(R201 to R203). -/

namespace Sys2Proof.Machine

/-- R12: exchange bit 0 and bit 1. -/
def swap2 (x : BitVec 2) : BitVec 2 := ((x &&& 1) <<< 1) ||| ((x >>> 1) &&& 1)

/-- R131: the byte a pair of disk bytes carries. -/
def d44 (hi lo : Byte) : Byte := ((hi &&& 0x55) <<< 1) ||| (lo &&& 0x55)

/-- R95: the disk bytes of the 6-bit values 0..63, in order. -/
def alphabet : List Byte :=
  [0x96, 0x97, 0x9A, 0x9B, 0x9D, 0x9E, 0x9F, 0xA6, 0xA7, 0xAB, 0xAC, 0xAD, 0xAE, 0xAF, 0xB2, 0xB3] ++
  [0xB4, 0xB5, 0xB6, 0xB7, 0xB9, 0xBA, 0xBB, 0xBC, 0xBD, 0xBE, 0xBF, 0xCB, 0xCD, 0xCE, 0xCF, 0xD3] ++
  [0xD6, 0xD7, 0xD9, 0xDA, 0xDB, 0xDC, 0xDD, 0xDE, 0xDF, 0xE5, 0xE6, 0xE7, 0xE9, 0xEA, 0xEB, 0xEC] ++
  [0xED, 0xEE, 0xEF, 0xF2, 0xF3, 0xF4, 0xF5, 0xF6, 0xF7, 0xF9, 0xFA, 0xFB, 0xFC, 0xFD, 0xFE, 0xFF]

/-- The position of a byte in a list of bytes, counted from a start. -/
def positionFrom (start : Nat) (b : Byte) : List Byte → Option Nat
  | [] => none
  | a :: rest => if a = b then some start else positionFrom (start + 1) b rest

/-- R134: the 6-bit value a disk byte stands for; `none` is INVALID. -/
def l62 (b : Byte) : Option Sym := (positionFrom 0 b alphabet).map (BitVec.ofNat 6)

/-- R95: the disk byte of a 6-bit value. -/
def symbolOf (v : Sym) : Byte := alphabet.getD v.toNat 0

/-- R99: the two bits of an auxiliary value that feed region r: bits 1:0, 3:2 or 5:4. -/
def regionBits (t : Sym) (r : Nat) : BitVec 2 := t.extractLsb' (2 * r) 2

/-- R139: an output byte from the main value c and the two auxiliary bits: c in 7:2, the swapped pair in 1:0. -/
def payloadByte (c : Sym) (pair : BitVec 2) : Byte := (c.setWidth 8 <<< 2) ||| (swap2 pair).setWidth 8

/-- The value a data nibble adds to the running checksum: its alphabet value, or 0 where it is invalid (R138, R142). -/
def nibbleValue (n : Byte) : Sym := (l62 n).getD 0

/-- R140: the running values C[0], C[1], ... of a nibble sequence, from the checksum c before it. -/
def runningValues (c : Sym) : List Byte → List Sym
  | [] => []
  | n :: rest => (c ^^^ nibbleValue n) :: runningValues (c ^^^ nibbleValue n) rest

/-- R140: the first invalid nibble of a sequence with its index, counted from a start. -/
def firstInvalid (start : Nat) : List Byte → Option (Nat × Byte)
  | [] => none
  | n :: rest => match l62 n with
    | none => some (start, n)
    | some _ => firstInvalid (start + 1) rest

/-- R140: the result of a 6-and-2 decode. -/
structure Decoded where
  out : List Byte
  checksum : Sym
  invalid : Option (Nat × Byte)
  deriving DecidableEq, Repr

/-- R140: output byte j from the running values. -/
def outputByte (values : List Sym) (j : Nat) : Byte :=
  payloadByte (values.getD (86 + j) 0) (regionBits (values.getD (j % 86) 0) (j / 86))

/-- R140: `decode62` of a sequence of 342 nibbles. -/
def decode62 (n : List Byte) : Decoded where
  out := (List.range 256).map (outputByte (runningValues 0 n))
  checksum := (runningValues 0 n).getLastD 0
  invalid := firstInvalid 0 n

/-- R201: the address checksum. -/
def addrOk (vol trk sec chk : Byte) : Bool := chk == vol ^^^ trk ^^^ sec

/-- R202: the track check. -/
def trackOk (found expected : Byte) : Bool := found == expected

/-- R203: the data checksum. -/
def dataOk (c v : Sym) : Bool := c == v

end Sys2Proof.Machine
end

