-- ==== Sys2Proof/Machine/Ops.lean ====
section
/-! DEFINITION. The operations every command is made of: the payload buffer, the stream primitive `Next()` (R10, R64), the
acceptance and completion of a command (R226, R227), the marker searches (R161, R162), the 4-and-4 pair (R170), the 6-and-2
decode step (R137 to R142), and the two shapes of a command. -/

namespace Sys2Proof.Machine

/-! ## The payload buffer -/

/-- The index of PAYLOAD[j] (R61). -/
def payloadIndex (j : Nat) : Nat := 0x100 + j

/-- The byte listed at an index. -/
def memoryRead : Memory → Nat → Option Byte
  | [], _ => none
  | (a, v) :: rest, i => if i = a then some v else memoryRead rest i

/-- Store a byte at an index, keeping the indices strictly rising. -/
def memoryWrite : Memory → Nat → Byte → Memory
  | [], i, b => [(i, b)]
  | (a, v) :: rest, i, b =>
    if i < a then (i, b) :: (a, v) :: rest
    else if i = a then (i, b) :: rest
    else (a, v) :: memoryWrite rest i b

/-- The canonical form: the indices strictly rising. An unlisted index has no value, so no entry repeats one. -/
def Memory.wf : Memory → Bool
  | [] => true
  | [_] => true
  | x :: y :: rest => decide (x.1 < y.1) && Memory.wf (y :: rest)

/-- Every listed index is one of PAYLOAD's, 0x100..0x1FF (R61). -/
def Memory.inRange (m : Memory) : Bool := m.all fun c => decide (0x100 ≤ c.1) && decide (c.1 ≤ 0x1FF)

/-- The n-th `rst`'s draw on the entries written before it (R253): each keeps its index and takes a free value. -/
def redrawPayload (n : Nat) (m : Memory) : Memory := m.map fun c => (c.1, Config.freePayload n c.1)

/-! ## The stream port -/

/-- A sequence of bytes as offers of the stream port. -/
def nibbles (bytes : List Byte) : List Offer := bytes.map Offer.nibble

/-- What a cursor offers next, with the cursor after that offer (R64); none: it has nothing listed and waits. An offered byte is
not offered again (R63); EOS stays on offer (R65); a looping or an endless cursor always has a byte (R264). -/
def Cursor.next (c : Cursor) : Option (Offer × Cursor) :=
  match c.offers with
  | .nibble b :: rest => some (.nibble b, { c with offers := rest })
  | .nothing :: rest => some (.nothing, { c with offers := rest })
  | .eos :: _ => some (.eos, c)
  | [] =>
    match c.tail with
    | .waits => none
    | .loops first more => some (.nibble first, { c with offers := nibbles more })
    | .free number position =>
      some (.nibble (Config.freeNibble number position), { c with tail := .free number (position + 1) })

/-- `Next()` (R10, R64) for a step that does `atEos` at the end of the stream and `withNibble` with a byte: a byte is consumed
and not offered again; EOS stays on offer (R65); with nothing offered the block does nothing in its turn. -/
def onNext (atEos : State → State) (withNibble : Byte → State → State) (s : State) : State :=
  match s.stream.next with
  | none => s
  | some (.nothing, rest) => { s with stream := rest }
  | some (.eos, _) => atEos s
  | some (.nibble b, rest) => withNibble b { s with stream := rest }

/-! ## Acceptance and completion -/

/-- `accept()` (R227): the acceptance writes every command makes, in the step of the host's CMD write of v. -/
def accept (v : Byte) (s : State) : State :=
  { s with cmd := v, done := false, ok := false, sev := .none, wbusy := false, kind := .ok, res := 0x00 }

/-- `finish(K)` (R226): the completion writes, all in one step. The block's one way to end a command, well or not. -/
def finish (k : Kind) (s : State) : State :=
  { s with busy := false, done := true, ok := k == .ok, sev := kindSeverity k, kind := k, phase := .idle }

/-- The further acceptance writes of a streaming command (R227): BUSY, and the phase it starts in. -/
def startStreaming (p : Phase) (s : State) : State := { s with busy := true, phase := p }

/-- An illegal command byte: accepted and completed at once with ILLEGAL_COMMAND (R240). -/
def illegalCommand (v : Byte) (s : State) : State := finish .illegalCommand (accept v s)

/-- A host write ignored because BUSY is 1 (R28, R78). -/
def ignoreWrite (s : State) : State := { s with wbusy := true }

/-- EOS anywhere but in a Seek (R180). -/
def exhausted (s : State) : State := finish .streamExhausted s

/-! ## Marker searches -/

/-- R12: the last k entries of a sequence, or all of it if it is shorter. -/
def lastK (k : Nat) (w : List Byte) : List Byte := w.drop (w.length - k)

/-- The start of a search (R164), in the step that enters its phase: an empty window and a zero count. -/
def startSearch (p : Phase) (s : State) : State := { s with phase := p, win := [], wcnt := 0 }

/-- One nibble into the sliding window of a k-byte pattern (R160). -/
def shiftWindow (k : Nat) (b : Byte) (s : State) : State := { s with win := lastK k (s.win ++ [b]) }

/-- One step of Seek (R161) for the pattern p. -/
def seekStep (p : List Byte) (atEos found : State → State) (s : State) : State :=
  onNext atEos (fun b s' =>
    let s'' := shiftWindow p.length b s'
    if s''.win = p then found s'' else s'') s

/-- One step of BSearch (R162) for the pattern p: the count goes up, a match is looked for, and without one the search ends when
the window P_WINDOW is used up, in that same step (R225). -/
def searchStep (p : List Byte) (found missed : State → State) (s : State) : State :=
  onNext exhausted (fun b s' =>
    let s'' := shiftWindow p.length b { s' with wcnt := s'.wcnt + 1 }
    if s''.win = p then found s''
    else if s''.window ≤ s''.wcnt then missed s''
    else s'') s

/-! ## 4-and-4 pairs -/

/-- The start of a pair: HI holds nothing of it yet. -/
def startPair (p : Phase) (s : State) : State := { s with phase := p, hiHeld := false }

/-- One step of reading a pair (R170): the first nibble is latched in HI, the second gives the decoded byte. -/
def pairStep (decoded : Byte → State → State) (s : State) : State :=
  onNext exhausted (fun b s' =>
    if s'.hiHeld then decoded (d44 s'.hi b) { s' with hiHeld := false }
    else { s' with hi := b, hiHeld := true }) s

/-! ## The 6-and-2 decode -/

/-- The start of a decode (R137). PAYLOAD and TWOS are not cleared. -/
def startDecode (s : State) : State := { s with d62Idx := 0, d62Chk := 0, invByte := 0, invIdx := 0, inv := false }

/-- `record_invalid(i, n)` (R142): only the first invalid nibble of a decode is recorded. -/
def recordInvalid (i : Idx) (n : Byte) (s : State) : State :=
  if s.inv then s else { s with invByte := n, invIdx := i, inv := true }

/-- The record of a nibble that is no alphabet symbol; a symbol leaves none (R138, R139). -/
def checkNibble (i : Idx) (n : Byte) (s : State) : State :=
  match l62 n with
  | some _ => s
  | none => recordInvalid i n s

/-- Where the running value c of data nibble i goes: into TWOS for i in 0..85 (R138), into PAYLOAD[i - 86], with two bits of
TWOS, for i in 86..341 (R139). -/
def storeValue (i : Nat) (c : Sym) (s : State) : State :=
  if h : i < 86 then { s with twos := s.twos.set i c }
  else if i < 342 then
    let j := i - 86
    let t := s.twos[j % 86]
    { s with payload := memoryWrite s.payload (payloadIndex j) (payloadByte c (regionBits t (j / 86))) }
  else s

/-- One decode step with the nibble n (R138, R139). -/
def decodeNibble (n : Byte) (s : State) : State :=
  let i := s.d62Idx
  let c := s.d62Chk ^^^ nibbleValue n
  let s' := storeValue i.toNat c (checkNibble i n s)
  { s' with d62Chk := c, d62Idx := i + 1 }

/-- The decode is complete (R143). -/
def decodeComplete (s : State) : Bool := decide (342 ≤ s.d62Idx.toNat)

/-- One step of a decode; `ended` is what its caller does after the 342nd nibble (R143). -/
def decodeStep (ended : State → State) (s : State) : State :=
  onNext exhausted (fun n s' =>
    let s'' := decodeNibble n s'
    if decodeComplete s'' then ended s'' else s'') s

/-! ## The shapes of a command -/

/-- The phases a command runs in (R38). A combinational command has none. -/
def phasesOf : Instr → List Phase
  | .nop => []
  | .rdsec => [.aPro, .aVol, .aTrk, .aSec, .aChk, .aEpi, .aEpi3, .dSync, .dPro, .dData, .dChk, .dEpi, .dEpi3]
  | .d44 => []
  | .l62 => []
  | .d62 => [.xD62]
  | .seekApro => [.xSeek]
  | .seekAepi => [.xSeek]
  | .seekDpro => [.xSeek]
  | .seekDepi => [.xSeek]
  | .seekSync => [.xSeek]
  | .bsrchApro => [.xBsrch]
  | .bsrchAepi => [.xBsrch]
  | .bsrchDpro => [.xBsrch]
  | .bsrchDepi => [.xBsrch]
  | .bsrchSync => [.xBsrch]
  | .skip => [.xSkip]
  | .cka => []
  | .ckd => []
  | .ckt => []

/-- The command i is running: BUSY is 1, CMD holds its byte (R23, R75) and PHASE is one of its phases (R38). -/
def runningIn (i : Instr) (s : State) : Bool :=
  s.busy && s.cmd == encodeByte i && decide (s.phase ∈ phasesOf i)

/-- The issue of command i by a CMD write: accepted while BUSY is 0 (R23, R227), ignored with WBUSY while it is 1 (R78). -/
def issue (i : Instr) (start : State → State) (s : State) : Host.Outcome State Fault Refusal :=
  if s.busy then .next (ignoreWrite s) else .next (start (accept (encodeByte i) s))

/-- A streaming command: while it is running, its next nibble step (R262); otherwise its issue. -/
def streamCommand (i : Instr) (start nibbleStep : State → State) (s : State) : Host.Outcome State Fault Refusal :=
  if runningIn i s then .next (nibbleStep s) else issue i start s

end Sys2Proof.Machine
end

