-- ==== Sys2Proof/Machine/Operands.lean ====
section
/-! DEFINITION. Where commands and the host find their operands: the patterns MSEL selects (R101) and the register index space
(R21, R60), whose every access goes through here. -/

namespace Sys2Proof.Machine

/-- The bytes a pattern stands for, the first to arrive first (R101, R63). -/
def patternBytes (p : Pattern) (s : State) : List Byte :=
  match p with
  | .apro => [s.cfgApro0, s.cfgApro1, s.cfgApro2]
  | .aepi => [s.cfgAepi0, s.cfgAepi1]
  | .dpro => [s.cfgDpro0, s.cfgDpro1, s.cfgDpro2]
  | .depi => [s.cfgDepi0, s.cfgDepi1]
  | .sync => [Config.syncByte]

/-- The access column of R21. -/
inductive Access where
  | command
  | readOnly
  | readWrite
  | reserved
  deriving DecidableEq, Repr

/-- The access an index of 0x000..0x1FF allows (R21). -/
def accessOf (index : Nat) : Access :=
  if index = 0x000 then .command
  else if index ≤ 0x003 then .readOnly
  else if index ≤ 0x014 then .readWrite
  else if index ≤ 0x01D then .readOnly
  else if index ≤ 0x0FF then .reserved
  else .readOnly

/-- The byte a host read of an index of 0x000..0x1FF returns (R21, R22); the fault of an unwritten PAYLOAD entry (R253). -/
def readIndex (s : State) (index : Nat) : Except Fault Byte :=
  match index with
  | 0x000 => .ok s.cmd
  | 0x001 => .ok (statusByte s)
  | 0x002 => .ok (kindByte s)
  | 0x003 => .ok s.res
  | 0x004 => .ok s.opa
  | 0x005 => .ok s.opb
  | 0x006 => .ok s.opc
  | 0x007 => .ok s.opd
  | 0x008 => .ok s.cfgTrack
  | 0x009 => .ok s.cfgApro0
  | 0x00A => .ok s.cfgApro1
  | 0x00B => .ok s.cfgApro2
  | 0x00C => .ok s.cfgAepi0
  | 0x00D => .ok s.cfgAepi1
  | 0x00E => .ok s.cfgAepi2
  | 0x00F => .ok s.cfgDpro0
  | 0x010 => .ok s.cfgDpro1
  | 0x011 => .ok s.cfgDpro2
  | 0x012 => .ok s.cfgDepi0
  | 0x013 => .ok s.cfgDepi1
  | 0x014 => .ok s.cfgDepi2
  | 0x015 => .ok s.afVol
  | 0x016 => .ok s.afTrk
  | 0x017 => .ok s.afSec
  | 0x018 => .ok s.afChk
  | 0x019 => .ok (d62ChkByte s)
  | 0x01A => .ok s.invByte
  | 0x01B => .ok (invIdxLo s)
  | 0x01C => .ok (invIdxHi s)
  | 0x01D => .ok (phaseCode s.phase)
  | i =>
    if i ≤ 0x0FF then .ok 0x00
    else match memoryRead s.payload i with
      | some b => .ok b
      | none => .error (.payloadUnwritten i)

/-- Store a byte in the `RW` register at an index (R32 to R34); any other index keeps the state as it is. -/
def writeRegister (index : Nat) (v : Byte) (s : State) : State :=
  match index with
  | 0x004 => { s with opa := v }
  | 0x005 => { s with opb := v }
  | 0x006 => { s with opc := v }
  | 0x007 => { s with opd := v }
  | 0x008 => { s with cfgTrack := v }
  | 0x009 => { s with cfgApro0 := v }
  | 0x00A => { s with cfgApro1 := v }
  | 0x00B => { s with cfgApro2 := v }
  | 0x00C => { s with cfgAepi0 := v }
  | 0x00D => { s with cfgAepi1 := v }
  | 0x00E => { s with cfgAepi2 := v }
  | 0x00F => { s with cfgDpro0 := v }
  | 0x010 => { s with cfgDpro1 := v }
  | 0x011 => { s with cfgDpro2 := v }
  | 0x012 => { s with cfgDepi0 := v }
  | 0x013 => { s with cfgDepi1 := v }
  | 0x014 => { s with cfgDepi2 := v }
  | _ => s

end Sys2Proof.Machine
end

