-- ==== Sys2Proof/Machine/Checksum.lean ====
section
/-! DEFINITION. The checksum commands CKA, CKD and CKT (R204 to R206). -/

namespace Sys2Proof.Machine

/-- R204: RES <- OPA ^ OPB ^ OPC, compared with OPD. -/
def ckaBody (s : State) : State :=
  finish (if addrOk s.opa s.opb s.opc s.opd then .ok else .compareMismatch) { s with res := s.opa ^^^ s.opb ^^^ s.opc }

/-- R205: the alphabet check first, then the comparison with the running checksum. -/
def ckdBody (s : State) : State :=
  match l62 s.opa with
  | none => finish .invalidEncodedByte s
  | some v => finish (if dataOk s.d62Chk v then .ok else .compareMismatch) { s with res := v.setWidth 8 }

/-- R206: RES <- OPA ^ CFG_TRACK, which are compared. -/
def cktBody (s : State) : State :=
  finish (if trackOk s.opa s.cfgTrack then .ok else .compareMismatch) { s with res := s.opa ^^^ s.cfgTrack }

/-- CKA (R204). -/
def execCka (s : State) : Host.Outcome State Fault Refusal := issue .cka ckaBody s

/-- CKD (R205). -/
def execCkd (s : State) : Host.Outcome State Fault Refusal := issue .ckd ckdBody s

/-- CKT (R206). -/
def execCkt (s : State) : Host.Outcome State Fault Refusal := issue .ckt cktBody s

end Sys2Proof.Machine
end

