-- ==== Sys2Proof/Machine/Codec.lean ====
section
/-! DEFINITION. NOP and the codec commands D44, L62 and D62 (R240, R133, R135, R144). -/

namespace Sys2Proof.Machine

/-- R240: NOP writes only what acceptance and completion write. -/
def nopBody (s : State) : State := finish .ok s

/-- R133: RES <- d44(OPA, OPB). -/
def d44Body (s : State) : State := finish .ok { s with res := d44 s.opa s.opb }

/-- R135: RES <- l62(OPA); an invalid byte leaves RES 0x00. -/
def l62Body (s : State) : State :=
  match l62 s.opa with
  | none => finish .invalidEncodedByte s
  | some v => finish .ok { s with res := v.setWidth 8 }

/-- R144: what D62 does after the 342nd nibble. -/
def d62Ended (s : State) : State :=
  finish (if s.inv then .invalidEncodedByte else .ok) { s with res := s.d62Chk.setWidth 8 }

/-- R144: one nibble of D62. -/
def d62Step (s : State) : State := decodeStep d62Ended s

/-- NOP (R240). -/
def execNop (s : State) : Host.Outcome State Fault Refusal := issue .nop nopBody s

/-- D44 (R133). -/
def execD44 (s : State) : Host.Outcome State Fault Refusal := issue .d44 d44Body s

/-- L62 (R135). -/
def execL62 (s : State) : Host.Outcome State Fault Refusal := issue .l62 l62Body s

/-- D62 (R144). -/
def execD62 (s : State) : Host.Outcome State Fault Refusal :=
  streamCommand .d62 (fun s => startDecode (startStreaming .xD62 s)) d62Step s

end Sys2Proof.Machine
end

