-- ==== Sys2Proof/Machine/Matcher.lean ====
section
/-! DEFINITION. The matcher commands SEEK, BSRCH (one per pattern) and SKIP (R165 to R167). -/

namespace Sys2Proof.Machine

/-- R165: one nibble of SEEK; RES stays 0x00. -/
def seekCommandStep (p : Pattern) (s : State) : State :=
  seekStep (patternBytes p s) (finish .markerNotFound) (finish .ok) s

/-- R165: SEEK starts an unbounded search. -/
def seekStart (s : State) : State := startSearch .xSeek (startStreaming .xSeek s)

/-- R166: one nibble of BSRCH; RES is the count of nibbles the search consumed, P_WINDOW where it failed. -/
def bsrchCommandStep (p : Pattern) (s : State) : State :=
  searchStep (patternBytes p s) (fun s => finish .ok { s with res := s.wcnt })
    (fun s => finish .markerNotFound { s with res := s.window }) s

/-- R166: BSRCH starts a bounded search. -/
def bsrchStart (s : State) : State := startSearch .xBsrch (startStreaming .xBsrch s)

/-- R163, R167: SKIP consumes one nibble into RES. -/
def skipStep (s : State) : State := onNext exhausted (fun b s => finish .ok { s with res := b }) s

/-- SEEK APRO (R165). -/
def execSeekApro (s : State) : Host.Outcome State Fault Refusal := streamCommand .seekApro seekStart (seekCommandStep .apro) s

/-- SEEK AEPI (R165). -/
def execSeekAepi (s : State) : Host.Outcome State Fault Refusal := streamCommand .seekAepi seekStart (seekCommandStep .aepi) s

/-- SEEK DPRO (R165). -/
def execSeekDpro (s : State) : Host.Outcome State Fault Refusal := streamCommand .seekDpro seekStart (seekCommandStep .dpro) s

/-- SEEK DEPI (R165). -/
def execSeekDepi (s : State) : Host.Outcome State Fault Refusal := streamCommand .seekDepi seekStart (seekCommandStep .depi) s

/-- SEEK SYNC (R165). -/
def execSeekSync (s : State) : Host.Outcome State Fault Refusal := streamCommand .seekSync seekStart (seekCommandStep .sync) s

/-- BSRCH APRO (R166). -/
def execBsrchApro (s : State) : Host.Outcome State Fault Refusal := streamCommand .bsrchApro bsrchStart (bsrchCommandStep .apro) s

/-- BSRCH AEPI (R166). -/
def execBsrchAepi (s : State) : Host.Outcome State Fault Refusal := streamCommand .bsrchAepi bsrchStart (bsrchCommandStep .aepi) s

/-- BSRCH DPRO (R166). -/
def execBsrchDpro (s : State) : Host.Outcome State Fault Refusal := streamCommand .bsrchDpro bsrchStart (bsrchCommandStep .dpro) s

/-- BSRCH DEPI (R166). -/
def execBsrchDepi (s : State) : Host.Outcome State Fault Refusal := streamCommand .bsrchDepi bsrchStart (bsrchCommandStep .depi) s

/-- BSRCH SYNC (R166). -/
def execBsrchSync (s : State) : Host.Outcome State Fault Refusal := streamCommand .bsrchSync bsrchStart (bsrchCommandStep .sync) s

/-- SKIP (R167). -/
def execSkip (s : State) : Host.Outcome State Fault Refusal := streamCommand .skip (startStreaming .xSkip) skipStep s

end Sys2Proof.Machine
end

