-- ==== Sys2Proof/Machine/Sector.lean ====
section
/-! DEFINITION. RDSEC, one sector-read attempt: the source's protocol steps 1 to 11 (R168 to R180), one definition per phase. -/

namespace Sys2Proof.Machine

/-- R168: RDSEC's own acceptance writes, and the start of step 1's search. -/
def rdsecStart (s : State) : State :=
  startSearch .aPro (startStreaming .aPro { s with afVol := 0x00, afTrk := 0x00, afSec := 0x00, afChk := 0x00 })

/-- Step 1 (R169): the unbounded search for the address prologue. -/
def rdsecAPro (s : State) : State :=
  seekStep (patternBytes .apro s) (finish .addrPrologueNotFound) (startPair .aVol) s

/-- Step 2 (R170): the volume pair. -/
def rdsecAVol (s : State) : State := pairStep (fun x s => startPair .aTrk { s with afVol := x }) s

/-- Step 2 (R170): the track pair. -/
def rdsecATrk (s : State) : State := pairStep (fun x s => startPair .aSec { s with afTrk := x }) s

/-- Step 3 (R171), in the step of the sector pair's second nibble: the track check. -/
def rdsecTrackCheck (s : State) : State :=
  if trackOk s.afTrk s.cfgTrack then startPair .aChk s else finish .trackMismatch s

/-- Step 2 (R170): the sector pair. -/
def rdsecASec (s : State) : State := pairStep (fun x s => rdsecTrackCheck { s with afSec := x }) s

/-- Step 4 (R172), in the step of the checksum pair's second nibble: the address checksum. -/
def rdsecAddressCheck (s : State) : State :=
  if addrOk s.afVol s.afTrk s.afSec s.afChk then startSearch .aEpi s else finish .addrChecksumMismatch s

/-- Step 4 (R172): the checksum pair. -/
def rdsecAChk (s : State) : State := pairStep (fun x s => rdsecAddressCheck { s with afChk := x }) s

/-- Step 5 (R173): the bounded search for the address epilogue. -/
def rdsecAEpi (s : State) : State :=
  searchStep (patternBytes .aepi s) (fun s => { s with phase := .aEpi3 }) (finish .addrEpilogueNotFound) s

/-- Step 5 (R173): the unvalidated third epilogue nibble. -/
def rdsecAEpi3 (s : State) : State := onNext exhausted (fun _ s => startSearch .dSync s) s

/-- Step 6 (R174): the bounded search for the sync byte. -/
def rdsecDSync (s : State) : State :=
  searchStep (patternBytes .sync s) (startSearch .dPro) (finish .dataSyncNotFound) s

/-- Step 7 (R175): the bounded search for the data prologue; on a match the decode starts in the same step. -/
def rdsecDPro (s : State) : State :=
  searchStep (patternBytes .dpro s) (fun s => startDecode { s with phase := .dData }) (finish .dataPrologueNotFound) s

/-- Step 8 (R176), after the 342nd data nibble. -/
def rdsecDataEnded (s : State) : State :=
  if s.inv then finish .corruptSectorData s else { s with phase := .dChk }

/-- Step 8 (R176): a data nibble. -/
def rdsecDData (s : State) : State := decodeStep rdsecDataEnded s

/-- Step 9 (R177): the trailing checksum nibble t. -/
def rdsecTrailing (t : Byte) (s : State) : State :=
  match l62 t with
  | none => finish (trailingInvalidKind s.trailingInvalid) s
  | some v => if dataOk s.d62Chk v then startSearch .dEpi s else finish .dataChecksumMismatch s

/-- Step 9 (R177). -/
def rdsecDChk (s : State) : State := onNext exhausted rdsecTrailing s

/-- Step 10 (R178): the bounded search for the data epilogue; no further nibble on failure (90 C2). -/
def rdsecDEpi (s : State) : State :=
  searchStep (patternBytes .depi s) (fun s => { s with phase := .dEpi3 }) (finish .dataEpilogueNotFound) s

/-- Steps 10 and 11 (R178, R179): the third epilogue nibble, and success in the same step. -/
def rdsecDEpi3 (s : State) : State := onNext exhausted (fun _ s => finish .ok { s with res := s.afSec }) s

/-- The step PHASE names (R181). RDSEC runs in no other phase (R38). -/
def rdsecStep (s : State) : State :=
  match s.phase with
  | .aPro => rdsecAPro s
  | .aVol => rdsecAVol s
  | .aTrk => rdsecATrk s
  | .aSec => rdsecASec s
  | .aChk => rdsecAChk s
  | .aEpi => rdsecAEpi s
  | .aEpi3 => rdsecAEpi3 s
  | .dSync => rdsecDSync s
  | .dPro => rdsecDPro s
  | .dData => rdsecDData s
  | .dChk => rdsecDChk s
  | .dEpi => rdsecDEpi s
  | .dEpi3 => rdsecDEpi3 s
  | .idle => s
  | .xSeek => s
  | .xBsrch => s
  | .xSkip => s
  | .xD62 => s

/-- RDSEC (R168). -/
def execRdsec (s : State) : Host.Outcome State Fault Refusal := streamCommand .rdsec rdsecStart rdsecStep s

end Sys2Proof.Machine
end

