-- ==== Sys2Proof/Machine/Dispatch.lean ====
section
/-! DEFINITION. Every command dispatched to its meaning: the step of the command that is due in the state. -/

namespace Sys2Proof.Machine

def exec (i : Instr) (s : State) : Host.Outcome State Fault Refusal :=
  match i with
  | .nop => Sys2Proof.Machine.execNop s
  | .rdsec => Sys2Proof.Machine.execRdsec s
  | .d44 => Sys2Proof.Machine.execD44 s
  | .l62 => Sys2Proof.Machine.execL62 s
  | .d62 => Sys2Proof.Machine.execD62 s
  | .seekApro => Sys2Proof.Machine.execSeekApro s
  | .seekAepi => Sys2Proof.Machine.execSeekAepi s
  | .seekDpro => Sys2Proof.Machine.execSeekDpro s
  | .seekDepi => Sys2Proof.Machine.execSeekDepi s
  | .seekSync => Sys2Proof.Machine.execSeekSync s
  | .bsrchApro => Sys2Proof.Machine.execBsrchApro s
  | .bsrchAepi => Sys2Proof.Machine.execBsrchAepi s
  | .bsrchDpro => Sys2Proof.Machine.execBsrchDpro s
  | .bsrchDepi => Sys2Proof.Machine.execBsrchDepi s
  | .bsrchSync => Sys2Proof.Machine.execBsrchSync s
  | .skip => Sys2Proof.Machine.execSkip s
  | .cka => Sys2Proof.Machine.execCka s
  | .ckd => Sys2Proof.Machine.execCkd s
  | .ckt => Sys2Proof.Machine.execCkt s

end Sys2Proof.Machine
end

