-- ==== Sys2Proof/Machine/Agents.lean ====
section
/-! DEFINITION. What the agents of rule R15 do in one event: the host's reads and writes (R60, R68, R78), the `rst` input
(R250, R253), the connection of a stream (R65), and a turn of the block (R262). -/

namespace Sys2Proof.Machine

/-- The issue of the command byte v (R23): the command's meaning, or the completion of an illegal byte (R240). -/
def issueByte (v : Byte) (s : State) : Host.Outcome State Fault Refusal :=
  match decodeByte v with
  | .ok i => exec i s
  | .error _ => .next (illegalCommand v s)

/-- A host write of v at an index (R22, R23, R60, R68, R78). -/
def hostWrite (index : Nat) (v : Byte) (s : State) : Host.Outcome State Fault Refusal :=
  if 0x200 ≤ index then .refused (.indexOutsideSpace index)
  else match accessOf index with
    | .command => if s.busy then .next (ignoreWrite s) else issueByte v s
    | .readWrite => if s.busy then .next (ignoreWrite s) else .next (writeRegister index v s)
    | .readOnly => .next s
    | .reserved => .next s

/-- A host read at an index (R22, R60, R77): the host has the byte, and nothing of the block changes. -/
def hostRead (index : Nat) (s : State) : Host.Outcome State Fault Refusal :=
  if 0x200 ≤ index then .refused (.indexOutsideSpace index)
  else match readIndex s index with
    | .ok b => .next { s with reads := (index, b) :: s.reads }
    | .error f => .fault f

/-- The assertion of `rst` (R250, R252, R253): every register to its reset value, with a free value for TWOS and for each PAYLOAD
entry written before; the parameters, the stream, the host's events and its reads are not the block's to reset. -/
def assertReset (s : State) : State :=
  { State.reset with
    payload := redrawPayload s.draws s.payload
    twos := Vector.ofFn fun k => Config.freeTwos s.draws k.val
    window := s.window
    trailingInvalid := s.trailingInvalid
    stream := s.stream
    agenda := s.agenda
    reads := s.reads
    draws := s.draws + 1 }

/-- The host connects a stream to the port (R65, R81, R254); the block does not see it. -/
def connectStream (c : Cursor) (s : State) : State := { s with stream := c }

/-- The command running in a state (R23, R38): the one whose byte CMD holds, if BUSY is 1 and PHASE is a phase of it. -/
def runningCommand (s : State) : Option Instr :=
  match decodeByte s.cmd with
  | .ok i => if runningIn i s then some i else none
  | .error _ => none

/-- A turn of the block (R15, R262): one step of the running command; with none running it has nothing to do. -/
def blockTurn (s : State) : Host.Outcome State Fault Refusal :=
  match runningCommand s with
  | some i => exec i s
  | none => .next s

/-- What one event does (R71). -/
def doEvent (e : Event) (s : State) : Host.Outcome State Fault Refusal :=
  match e with
  | .write index v => hostWrite index v s
  | .read index => hostRead index s
  | .reset => .next (assertReset s)
  | .connect c => .next (connectStream c s)
  | .turn => blockTurn s

/-- The next event of the total order (R71); with none listed, a turn of the block. -/
def nextEvent (s : State) : Host.Outcome State Fault Refusal :=
  match s.agenda with
  | [] => blockTurn s
  | e :: rest => doEvent e { s with agenda := rest }

/-- s with the CMD write of a table word as its next event. A command is issued only while BUSY is 0, so the block is made
idle (R23, R38); nothing else changes. -/
def placeCommand (s : State) (w : Nat) : State :=
  { s with busy := false, phase := .idle, agenda := .write 0x000 (BitVec.ofNat 8 w) :: s.agenda }

end Sys2Proof.Machine
end

