-- ==== Sys2Proof/Machine/Step.lean ====
section
/-! DEFINITION. One step of the whole system: the next event of the total order of rule R71. -/

namespace Sys2Proof.Machine

/-- One step. -/
def step (s : State) : Host.Outcome State Fault Refusal := nextEvent s

/-- s with a table word's instruction where step takes its next one: the host's next event is its CMD write (R23). -/
def State.withFetchWord (s : State) (nbits w : Nat) : State :=
  let _ := nbits
  placeCommand s w

end Sys2Proof.Machine
end

