-- ==== Sys2Proof/Machine/Encoder.lean ====
section
/-! DEFINITION. The conformant encoders of spec/95_test_vectors.md section 1 (rules R91, R98, R99, R132, R145), the inverses the
round-trip properties speak of. PRESUMED (safe): they are the spec's general knowledge (93 G4, G10; log 10). They are no part of
the block, which encodes nothing (R5 d, 93 U2): no command calls them; only statements and tests do. -/

namespace Sys2Proof.Machine

/-- R91: the conformant pair of a byte, `hi` first. -/
def encode44 (x : Byte) : Byte × Byte := ((x >>> 1) ||| 0xAA, x ||| 0xAA)

/-- R92: a conformant pair has all its padding bits 1. -/
def conformant44 (hi lo : Byte) : Bool := hi &&& 0xAA == 0xAA && lo &&& 0xAA == 0xAA

/-- The low two bits of a byte, swapped. -/
def lowPair (d : Byte) : BitVec 2 := swap2 (d.extractLsb' 0 2)

/-- The auxiliary value i of a payload (R99): its bits 1:0, 3:2 and 5:4 from the bytes i, i + 86 and i + 172, the last one 0
where there is no such byte. -/
def auxiliaryValue (d : List Byte) (i : Nat) : Sym :=
  let third : BitVec 2 := if i + 172 ≤ 255 then lowPair (d.getD (i + 172) 0) else 0
  third ++ lowPair (d.getD (i + 86) 0) ++ lowPair (d.getD i 0)

/-- The 342 values whose running XOR the nibbles carry: 86 auxiliary values, then the high six bits of each byte (R98). -/
def fieldValues (d : List Byte) : List Sym :=
  (List.range 86).map (auxiliaryValue d) ++ (List.range 256).map fun j => (d.getD j 0).extractLsb' 2 6

/-- Each nibble is the symbol of the XOR of its value with the one before it. -/
def symbolsFrom (prev : Sym) : List Sym → List Byte
  | [] => []
  | a :: rest => symbolOf (a ^^^ prev) :: symbolsFrom a rest

/-- The 342 data nibbles of a payload. -/
def encode62 (d : List Byte) : List Byte := symbolsFrom 0 (fieldValues d)

/-- The trailing checksum nibble of a payload (R98). -/
def trailing62 (d : List Byte) : Byte := symbolOf ((fieldValues d).getLastD 0)

end Sys2Proof.Machine
end

