-- ==== Sys2Proof/Machine/HostSide.lean ====
section
/-! DEFINITION. The host's side of the interface as rules R80 to R82 give it: what the surrounding software does after an RDSEC
has completed, and how it assembles the image. Outside the block and binding no step of it (R5 b); no event of the machine calls it. -/

namespace Sys2Proof.Machine

/-- The sectors read of one track, in the order they were inserted: sector number and payload. -/
abbrev SectorMap := List (Byte × List Byte)

/-- The payload of a sector number, if the map has one. -/
def sectorFind : SectorMap → Byte → Option (List Byte)
  | [], _ => none
  | (n, p) :: rest, k => if n = k then some p else sectorFind rest k

/-- The 256 bytes PAYLOAD[0..255], if a decode has written them all (R61, R253). -/
def payloadBytes (s : State) : Option (List Byte) :=
  (List.range 256).mapM fun j => memoryRead s.payload (payloadIndex j)

/-- What the host does after a completion of RDSEC (R80, R81). -/
inductive HostDecision where
  /-- Sector-recoverable: record the failure with its context and issue RDSEC again. -/
  | retry (kind : Kind) (track sector : Byte)
  /-- A new sector: insert it in the map and issue RDSEC again. -/
  | inserted (map : SectorMap)
  /-- The sector number is in the map already: the revolution is complete. A number that recurs through corruption looks the same,
  and the ambiguity is kept (R81, 93 U7). -/
  | revolutionComplete (map : SectorMap)
  /-- Track-fatal: stop, keeping the partial map. -/
  | trackFatal (map : SectorMap)
  /-- No completed RDSEC result to act on. -/
  | notReady
  deriving DecidableEq, Repr

/-- The host's decision from the registers it reads after DONE (R80, R81). DESIGN CHOICE (log 16): what the host does with a sector
number outside 0..15 is left open (91 N32, 93 U16); here it is inserted and ends the revolution when it recurs, as any other number,
and the assembly never looks it up. A completion R80 and R81 do not speak of (severity command, or a PAYLOAD entry no decode has
written) answers `notReady`, also the model's choice. -/
def afterRdsec (s : State) (map : SectorMap) : HostDecision :=
  if s.done = false then .notReady
  else match s.sev with
    | .sector => .retry s.kind s.afTrk s.afSec
    | .track => .trackFatal map
    | .command => .notReady
    | .none =>
      match payloadBytes s with
      | none => .notReady
      | some p =>
        match sectorFind map s.afSec with
        | some _ => .revolutionComplete map
        | none => .inserted (map ++ [(s.afSec, p)])

/-- R82: the sector number of each logical slot. -/
def interleave : List Byte := [0, 13, 11, 9, 7, 5, 3, 1, 14, 12, 10, 8, 6, 4, 2, 15]

/-- R82: the bytes of one track, sectors the map lacks as zeros. A sector number the table does not hold (above 15) is in no slot, so
its payload is not emitted (log 16). -/
def assembleTrack (map : SectorMap) : List Byte :=
  interleave.flatMap fun n => (sectorFind map n).getD (List.replicate 256 0)

/-- R82: the image, tracks in physical order. -/
def assembleImage (tracks : List SectorMap) : List Byte := tracks.flatMap assembleTrack

/-- R82: the sector numbers of 0..15 missing from a map, a non-fatal defect; a number above 15 in the map is not reported (log 16). -/
def missingSectors (map : SectorMap) : List Byte :=
  ((List.range 16).map (BitVec.ofNat 8)).filter fun n => (sectorFind map n).isNone

end Sys2Proof.Machine
end

