-- ==== Sys2Proof/Safety.lean ====
section
/-! DEFINITION. The terms statements are written in: runs of several steps, what a run delivers, and the invariant of the machine. -/

namespace Sys2Proof.Machine

/-- n steps, stopping at the first fault or refusal. -/
def steps : Nat → State → Host.Outcome State Fault Refusal
  | 0, s => .next s
  | n + 1, s =>
    match step s with
    | .next t => steps n t
    | .fault f => .fault f
    | .refused r => .refused r

/-- The cursor after it has offered the given bytes, one at each `Next()` (R64), if those are the next it offers. -/
def Cursor.delivers (c : Cursor) : List Byte → Option Cursor
  | [] => some c
  | b :: bytes =>
    match c.next with
    | some (.nibble first, rest) => if first = b then rest.delivers bytes else none
    | some (.eos, _) => none
    | some (.nothing, _) => none
    | none => none

/-- A cursor at the end of its stream (R65). -/
def Cursor.ended (c : Cursor) : Prop := c.next = some (.eos, c)

/-- The event that happens next (R71): with none listed, a turn of the block. -/
def eventOf (s : State) : Event := s.agenda.headD .turn

/-- The state without the event that happens. -/
def popEvent (s : State) : State := { s with agenda := s.agenda.tail }

/-- The pattern p ends at byte n of a sequence, counted from 1: its bytes are the last p.length of the first n (R161). -/
def endsAt (p : List Byte) (bytes : List Byte) (n : Nat) : Bool :=
  decide (p.length ≤ n) && decide (n ≤ bytes.length) && lastK p.length (bytes.take n) == p

/-- Byte n is where the pattern p first ends in a sequence (R161, R162). -/
def firstEnd (p : List Byte) (bytes : List Byte) (n : Nat) : Prop :=
  endsAt p bytes n = true ∧ ∀ m < n, endsAt p bytes m = false

/-- What n turns of a block that goes on searching take from a cursor: the bytes, in their order, and the cursor after them. -/
def Cursor.taken : Nat → Cursor → List Byte × Cursor
  | 0, c => ([], c)
  | n + 1, c =>
    match c.next with
    | some (.nibble b, rest) => (b :: (rest.taken n).1, (rest.taken n).2)
    | some (.nothing, rest) => rest.taken n
    | some (.eos, _) => ([], c)
    | none => ([], c)

/-- The stream never offers EOS and never contains the pattern p (R264): after any number of turns it is not at its end, and p ends
at no byte taken so far. -/
def endlessWithout (p : List Byte) (c : Cursor) : Prop :=
  ∀ n, ¬ (c.taken n).2.ended ∧ ∀ m, endsAt p (c.taken n).1 m = false

/-- The host's one event to come is the issue of command i, to an idle block (R23, R83). -/
def issuing (i : Instr) (s : State) : Prop :=
  s.busy = false ∧ s.agenda = [.write 0x000 (encodeByte i)]

/-- The registers when a command that wrote nothing but RES has completed: CMD, RES, STATUS, KIND and PHASE as the acceptance
and completion writes leave them (R226, R227), everything else as in s. -/
def completed (v : Byte) (k : Kind) (r : Byte) (s : State) : State :=
  { s with
    cmd := v, res := r, kind := k, sev := kindSeverity k, phase := .idle
    busy := false, done := true, ok := decide (k = .ok), wbusy := false }

/-- The registers when a streaming command has been accepted, but for the phase and the units it starts (R227). -/
def accepted (v : Byte) (s : State) : State :=
  { s with
    cmd := v, res := 0x00, kind := .ok, sev := .none
    busy := true, done := false, ok := false, wbusy := false }

/-- The operand, marker and track registers, the parameters and everything outside the block but the stream are the same. -/
def sameInputs (s t : State) : Prop :=
  t.opa = s.opa ∧ t.opb = s.opb ∧ t.opc = s.opc ∧ t.opd = s.opd ∧ t.cfgTrack = s.cfgTrack ∧
  t.cfgApro0 = s.cfgApro0 ∧ t.cfgApro1 = s.cfgApro1 ∧ t.cfgApro2 = s.cfgApro2 ∧
  t.cfgAepi0 = s.cfgAepi0 ∧ t.cfgAepi1 = s.cfgAepi1 ∧ t.cfgAepi2 = s.cfgAepi2 ∧
  t.cfgDpro0 = s.cfgDpro0 ∧ t.cfgDpro1 = s.cfgDpro1 ∧ t.cfgDpro2 = s.cfgDpro2 ∧
  t.cfgDepi0 = s.cfgDepi0 ∧ t.cfgDepi1 = s.cfgDepi1 ∧ t.cfgDepi2 = s.cfgDepi2 ∧
  t.window = s.window ∧ t.trailingInvalid = s.trailingInvalid ∧
  t.agenda = s.agenda ∧ t.reads = s.reads ∧ t.draws = s.draws

/-- The AF_* registers are the same. -/
def sameAddressField (s t : State) : Prop :=
  t.afVol = s.afVol ∧ t.afTrk = s.afTrk ∧ t.afSec = s.afSec ∧ t.afChk = s.afChk

/-- Everything a 6-and-2 decode writes is the same. -/
def sameDecoder (s t : State) : Prop :=
  t.d62Chk = s.d62Chk ∧ t.invByte = s.invByte ∧ t.invIdx = s.invIdx ∧ t.inv = s.inv ∧
  t.payload = s.payload ∧ t.twos = s.twos ∧ t.d62Idx = s.d62Idx

/-- The stream and everything a search or a pair writes are the same. -/
def sameMatcher (s t : State) : Prop :=
  t.stream = s.stream ∧ t.win = s.win ∧ t.wcnt = s.wcnt ∧ t.hi = s.hi ∧ t.hiHeld = s.hiHeld

/-- A sequence of nibbles with no invalid one (R140). -/
def allSymbols (n : List Byte) : Prop := (decode62 n).invalid = none

/-- The INV record a decode leaves (R37, R142): nothing, or the first invalid nibble with its index. -/
def invRecord (s : State) : Option (Nat × Byte) := if s.inv then some (s.invIdx.toNat, s.invByte) else none

/-- Every register whose reset value R48 states has it. -/
def resetRegisters (s : State) : Prop :=
  s.cmd = 0x00 ∧ statusByte s = 0x00 ∧ kindByte s = 0x00 ∧ s.res = 0x00 ∧
  s.opa = 0x00 ∧ s.opb = 0x00 ∧ s.opc = 0x00 ∧ s.opd = 0x00 ∧ s.cfgTrack = 0x00 ∧
  s.cfgApro0 = 0xD5 ∧ s.cfgApro1 = 0xAA ∧ s.cfgApro2 = 0x96 ∧
  s.cfgAepi0 = 0xDE ∧ s.cfgAepi1 = 0xAA ∧ s.cfgAepi2 = 0xEB ∧
  s.cfgDpro0 = 0xD5 ∧ s.cfgDpro1 = 0xAA ∧ s.cfgDpro2 = 0xAD ∧
  s.cfgDepi0 = 0xDE ∧ s.cfgDepi1 = 0xAA ∧ s.cfgDepi2 = 0xEB ∧
  s.afVol = 0x00 ∧ s.afTrk = 0x00 ∧ s.afSec = 0x00 ∧ s.afChk = 0x00 ∧
  d62ChkByte s = 0x00 ∧ s.invByte = 0x00 ∧ invIdxLo s = 0x00 ∧ invIdxHi s = 0x00 ∧
  s.phase = .idle ∧ s.win = [] ∧ s.wcnt = 0 ∧ s.hi = 0x00 ∧ s.d62Idx = 0 ∧ s.doneOutput = false

/-- The phases of the bounded searches (R173 to R175, R178, R166). -/
def boundedPhase (p : Phase) : Bool := decide (p ∈ [Phase.aEpi, .dSync, .dPro, .dEpi, .xBsrch])

/-- The phases of a 6-and-2 decode (R176, R144). -/
def decodePhase (p : Phase) : Bool := decide (p ∈ [Phase.dData, .xD62])

/-- The phases of RDSEC after its decode has ended without an invalid nibble (R176 to R178). -/
def afterDecodePhase (p : Phase) : Bool := decide (p ∈ [Phase.dChk, .dEpi, .dEpi3])

/-- The phases of RDSEC after the address checksum has been accepted (R172). -/
def afterAddressPhase (p : Phase) : Bool :=
  decide (p ∈ [Phase.aEpi, .aEpi3, .dSync, .dPro, .dData, .dChk, .dEpi, .dEpi3])

/-- The phases of RDSEC after the track has been accepted (R171). -/
def afterTrackPhase (p : Phase) : Bool := p == .aChk || afterAddressPhase p

/-- The commands that can raise a failure kind (R113, R221), by the byte CMD holds. -/
def raisedBy (k : Kind) (v : Byte) : Bool :=
  match k with
  | .ok => true
  | .trackMismatch => v == encodeByte .rdsec
  | .addrChecksumMismatch => v == encodeByte .rdsec
  | .addrEpilogueNotFound => v == encodeByte .rdsec
  | .dataSyncNotFound => v == encodeByte .rdsec
  | .dataPrologueNotFound => v == encodeByte .rdsec
  | .corruptSectorData => v == encodeByte .rdsec
  | .dataChecksumMismatch => v == encodeByte .rdsec
  | .dataEpilogueNotFound => v == encodeByte .rdsec
  | .addrPrologueNotFound => v == encodeByte .rdsec
  | .streamExhausted =>
    decide (v ∈ [Instr.rdsec, .bsrchApro, .bsrchAepi, .bsrchDpro, .bsrchDepi, .bsrchSync, .skip, .d62].map encodeByte)
  | .invalidEncodedByte => decide (v ∈ [Instr.l62, .d62, .ckd].map encodeByte)
  | .markerNotFound =>
    decide (v ∈ [Instr.seekApro, .seekAepi, .seekDpro, .seekDepi, .seekSync, .bsrchApro, .bsrchAepi, .bsrchDpro, .bsrchDepi,
      .bsrchSync].map encodeByte)
  | .compareMismatch => decide (v ∈ [Instr.cka, .ckd, .ckt].map encodeByte)
  | .illegalCommand => !(commandFields v).wellFormed

/-- What the status registers always satisfy (R24, R25, R27, R30, R38). -/
structure StatusInv (s : State) : Prop where
  busyPhase : s.busy = true ↔ s.phase ≠ .idle
  notBoth : ¬ (s.busy = true ∧ s.done = true)
  completed : s.done = true → s.sev = kindSeverity s.kind ∧ (s.ok = true ↔ s.kind = .ok)
  pending : s.done = false → s.ok = false ∧ s.kind = .ok ∧ s.sev = .none
  running : s.busy = true → ∃ i, runningIn i s = true

/-- What the matcher's state always satisfies (R6, R41, R162). -/
structure SearchInv (s : State) : Prop where
  windowPositive : s.window ≠ 0
  winShort : s.win.length ≤ 3
  countInWindow : boundedPhase s.phase = true → s.wcnt < s.window

/-- The form of the payload buffer (R39, R61). -/
structure PayloadInv (s : State) : Prop where
  sorted : s.payload.wf = true
  inRange : s.payload.inRange = true

/-- What the decoder's state always satisfies (R37, R39, R43, R142, R143). -/
structure DecodeInv (s : State) : Prop where
  idxBound : s.d62Idx.toNat ≤ 342
  decoding : decodePhase s.phase = true → s.d62Idx.toNat < 342
  decoded : afterDecodePhase s.phase = true → s.d62Idx.toNat = 342 ∧ s.inv = false
  invRecord : s.inv = true → s.invIdx.toNat < s.d62Idx.toNat ∧ l62 s.invByte = none
  noRecord : s.inv = false → s.invByte = 0 ∧ s.invIdx = 0
  written : ∀ j, 86 + j < s.d62Idx.toNat → memoryRead s.payload (payloadIndex j) ≠ none

/-- What an attempt's registers always satisfy: the checks already passed hold (R171, R172), a success has passed all of them
(R179), and a failure kind is one the command in CMD can raise (R113). -/
structure AttemptInv (s : State) : Prop where
  trackPassed : afterTrackPhase s.phase = true → s.afTrk = s.cfgTrack
  addressPassed : afterAddressPhase s.phase = true → addrOk s.afVol s.afTrk s.afSec s.afChk = true
  sector : s.ok = true → s.cmd = encodeByte .rdsec →
    addrOk s.afVol s.afTrk s.afSec s.afChk = true ∧ s.d62Idx.toNat = 342 ∧ s.inv = false ∧ s.res = s.afSec
  raised : raisedBy s.kind s.cmd = true

/-- The invariant: it holds after reset, and every step keeps it. -/
structure Inv (s : State) : Prop where
  status : StatusInv s
  search : SearchInv s
  payload : PayloadInv s
  decode : DecodeInv s
  attempt : AttemptInv s

end Sys2Proof.Machine
end

