-- ==== Sys2Proof/Certificates/Slice0/Obligations.lean ====
section
/-! DEFINITION. The statements for the provers. Each docstring names the rules of the spec it formalises. -/

open Sys2Proof Sys2Proof.Machine

/-! ## Reset -/

/-- R48: every register whose reset value the spec states has it in State.reset. PAYLOAD and TWOS, which R48 leaves
unspecified, are not in it. The marker defaults are values the spec states from general knowledge (93 G3; log 10). -/
def Obligations.ResetLeavesTheStatedRegisters : Prop := resetRegisters State.reset

/-- R48, R250: asserting `rst`, at any time, also while BUSY is 1, puts the registers into their reset values in one step; R252:
it does not act on the stream. That the events still to come and the host's reads stay speaks of the model's own fields (log 1,
log 7). -/
def Obligations.ResetEventRestoresTheRegisters : Prop :=
  ∀ (s : State) (rest : List Event), s.agenda = .reset :: rest →
    ∃ t, step s = .next t ∧ resetRegisters t ∧ t.stream = s.stream ∧ t.agenda = rest ∧ t.reads = s.reads

/-! ## The register index space -/

/-- R21: what each index reads, and the access it allows. -/
def Obligations.RegisterIndexMap : Prop :=
  ∀ s : State,
    (readIndex s 0x000 = .ok s.cmd ∧ readIndex s 0x001 = .ok (statusByte s) ∧ readIndex s 0x002 = .ok (kindByte s) ∧
      readIndex s 0x003 = .ok s.res ∧ readIndex s 0x004 = .ok s.opa ∧ readIndex s 0x005 = .ok s.opb ∧
      readIndex s 0x006 = .ok s.opc ∧ readIndex s 0x007 = .ok s.opd ∧ readIndex s 0x008 = .ok s.cfgTrack) ∧
    (readIndex s 0x009 = .ok s.cfgApro0 ∧ readIndex s 0x00A = .ok s.cfgApro1 ∧ readIndex s 0x00B = .ok s.cfgApro2 ∧
      readIndex s 0x00C = .ok s.cfgAepi0 ∧ readIndex s 0x00D = .ok s.cfgAepi1 ∧ readIndex s 0x00E = .ok s.cfgAepi2 ∧
      readIndex s 0x00F = .ok s.cfgDpro0 ∧ readIndex s 0x010 = .ok s.cfgDpro1 ∧ readIndex s 0x011 = .ok s.cfgDpro2 ∧
      readIndex s 0x012 = .ok s.cfgDepi0 ∧ readIndex s 0x013 = .ok s.cfgDepi1 ∧ readIndex s 0x014 = .ok s.cfgDepi2) ∧
    (readIndex s 0x015 = .ok s.afVol ∧ readIndex s 0x016 = .ok s.afTrk ∧ readIndex s 0x017 = .ok s.afSec ∧
      readIndex s 0x018 = .ok s.afChk ∧ readIndex s 0x019 = .ok (d62ChkByte s) ∧ readIndex s 0x01A = .ok s.invByte ∧
      readIndex s 0x01B = .ok (invIdxLo s) ∧ readIndex s 0x01C = .ok (invIdxHi s) ∧
      readIndex s 0x01D = .ok (phaseCode s.phase)) ∧
    (∀ i, 0x01E ≤ i → i ≤ 0x0FF → readIndex s i = .ok 0x00) ∧
    (∀ j b, j < 256 → memoryRead s.payload (0x100 + j) = some b → readIndex s (0x100 + j) = .ok b) ∧
    accessOf 0x000 = .command ∧
    (∀ i, 0x001 ≤ i → i ≤ 0x003 → accessOf i = .readOnly) ∧
    (∀ i, 0x004 ≤ i → i ≤ 0x014 → accessOf i = .readWrite) ∧
    (∀ i, 0x015 ≤ i → i ≤ 0x01D → accessOf i = .readOnly) ∧
    (∀ i, 0x01E ≤ i → i ≤ 0x0FF → accessOf i = .reserved) ∧
    (∀ i, 0x100 ≤ i → i ≤ 0x1FF → accessOf i = .readOnly)

/-- R24, R30, R36, R37, R38: the fields of STATUS, KIND, D62_CHK, INV_IDX_LO, INV_IDX_HI and the codes of PHASE; R113: the code of
each kind, by its name. -/
def Obligations.RegisterFields : Prop :=
  (∀ s : State,
    (statusByte s).getLsbD 0 = s.busy ∧ (statusByte s).getLsbD 1 = s.done ∧ (statusByte s).getLsbD 2 = s.ok ∧
    (statusByte s).getLsbD 3 = s.wbusy ∧ (statusByte s).extractLsb' 4 2 = severityCode s.sev ∧
    (statusByte s).extractLsb' 6 2 = 0 ∧
    (kindByte s).extractLsb' 0 4 = kindCode s.kind ∧ (kindByte s).extractLsb' 4 4 = 0 ∧
    (d62ChkByte s).extractLsb' 0 6 = s.d62Chk ∧ (d62ChkByte s).extractLsb' 6 2 = 0 ∧
    (∀ k < 8, (invIdxLo s).getLsbD k = s.invIdx.getLsbD k) ∧
    (invIdxHi s).getLsbD 0 = s.invIdx.getLsbD 8 ∧ (invIdxHi s).extractLsb' 1 6 = 0 ∧ (invIdxHi s).getLsbD 7 = s.inv) ∧
  [Phase.idle, .aPro, .aVol, .aTrk, .aSec, .aChk, .aEpi, .aEpi3, .dSync, .dPro, .dData, .dChk, .dEpi, .dEpi3, .xSeek, .xBsrch,
    .xSkip, .xD62].map phaseCode = [0, 1, 2, 3, 4, 5, 6, 7, 8, 9, 10, 11, 12, 13, 14, 15, 16, 17] ∧
  [Kind.ok, .trackMismatch, .addrChecksumMismatch, .addrEpilogueNotFound, .dataSyncNotFound, .dataPrologueNotFound,
    .corruptSectorData, .dataChecksumMismatch, .dataEpilogueNotFound, .addrPrologueNotFound, .streamExhausted,
    .invalidEncodedByte, .markerNotFound, .compareMismatch, .illegalCommand].map kindCode =
      [0, 1, 2, 3, 4, 5, 6, 7, 8, 9, 10, 11, 12, 13, 14]

/-- R115: the severity of each kind by its code, and the codes of R114. Code 15 is no kind's (R113). -/
def Obligations.SeverityOfEachKind : Prop :=
  (∀ k : Kind, (kindCode k).toNat ≤ 14 ∧
    ((kindCode k).toNat = 0 → kindSeverity k = .none) ∧
    (1 ≤ (kindCode k).toNat → (kindCode k).toNat ≤ 8 → kindSeverity k = .sector) ∧
    (9 ≤ (kindCode k).toNat → (kindCode k).toNat ≤ 10 → kindSeverity k = .track) ∧
    (11 ≤ (kindCode k).toNat → kindSeverity k = .command)) ∧
  [Severity.none, .sector, .track, .command].map severityCode = [0, 1, 2, 3]

/-- R22 and R78: a write to a read-only or reserved index changes nothing; a write to CMD or an `RW` register while BUSY is 1 sets
WBUSY and changes nothing else; a reserved index reads 0x00; a read has no side effect. That the byte read is put in front of the
host's reads is the model's own record (log 7). -/
def Obligations.HostAccessRule : Prop :=
  ∀ (s : State) (rest : List Event),
    (∀ i v, s.agenda = .write i v :: rest → i < 0x200 → accessOf i = .readOnly ∨ accessOf i = .reserved →
      step s = .next { s with agenda := rest }) ∧
    (∀ i v, s.agenda = .write i v :: rest → i < 0x200 → accessOf i = .command ∨ accessOf i = .readWrite → s.busy = true →
      step s = .next { s with agenda := rest, wbusy := true }) ∧
    (∀ i, 0x01E ≤ i → i ≤ 0x0FF → readIndex s i = .ok 0x00) ∧
    (∀ i b, s.agenda = .read i :: rest → i < 0x200 → readIndex s i = .ok b →
      step s = .next { s with agenda := rest, reads := (i, b) :: s.reads })

/-- R60, R253, 90 C6 (log 3, log 14): an access at index 0x200 or above is refused, and a read of a PAYLOAD entry no decode has
written faults. -/
def Obligations.HostAccessesThatStop : Prop :=
  ∀ (s : State) (rest : List Event),
    (∀ i v, s.agenda = .write i v :: rest → 0x200 ≤ i → step s = .refused (.indexOutsideSpace i)) ∧
    (∀ i, s.agenda = .read i :: rest → 0x200 ≤ i → step s = .refused (.indexOutsideSpace i)) ∧
    (∀ j, j < 256 → s.agenda = .read (0x100 + j) :: rest → memoryRead s.payload (0x100 + j) = none →
      step s = .fault (.payloadUnwritten (0x100 + j)))

/-- R60, R225, R253: nothing but those accesses stops a step. No command does, and no failure does. -/
def Obligations.NothingElseStopsAStep : Prop :=
  ∀ s : State,
    (∀ f, step s = .fault f → ∃ j < 256, eventOf s = .read (0x100 + j) ∧ memoryRead s.payload (0x100 + j) = none ∧
      f = .payloadUnwritten (0x100 + j)) ∧
    (∀ r, step s = .refused r → ∃ i, 0x200 ≤ i ∧ r = .indexOutsideSpace i ∧
      (eventOf s = .read i ∨ ∃ v, eventOf s = .write i v))

/-- R225: every command answers a next state in every state. -/
def Obligations.EveryCommandAnswersANextState : Prop := ∀ (i : Instr) (s : State), ∃ t, exec i s = .next t

/-- R32, R33, R34, R68: a write to an `RW` register while BUSY is 0 stores the byte, and every other index and every hidden
register reads as before. -/
def Obligations.IdleWriteStoresTheByte : Prop :=
  ∀ (s : State) (rest : List Event) (i : Nat) (v : Byte), s.agenda = .write i v :: rest → s.busy = false →
    accessOf i = .readWrite →
    ∃ t, step s = .next t ∧ readIndex t i = .ok v ∧ (∀ k, k ≠ i → readIndex t k = readIndex s k) ∧
      t.agenda = rest ∧ sameMatcher s t ∧ sameDecoder s t ∧ t.window = s.window ∧ t.trailingInvalid = s.trailingInvalid ∧
      t.reads = s.reads ∧ t.draws = s.draws

/-! ## Rules of the whole machine -/

/-- R28: WBUSY is set by a host write to CMD or an `RW` register while BUSY is 1 and by nothing else; it is cleared by the
acceptance of a command and by reset and by nothing else. -/
def Obligations.WbusyRule : Prop :=
  ∀ s t : State, step s = .next t →
    (s.busy = true → ∀ i v, eventOf s = .write i v → accessOf i = .command ∨ accessOf i = .readWrite → t.wbusy = true) ∧
    (s.wbusy = false → t.wbusy = true → s.busy = true ∧ ∃ i v, eventOf s = .write i v ∧
      (accessOf i = .command ∨ accessOf i = .readWrite)) ∧
    (eventOf s = .reset ∨ (s.busy = false ∧ ∃ v, eventOf s = .write 0x000 v) → t.wbusy = false) ∧
    (s.wbusy = true → t.wbusy = false → eventOf s = .reset ∨ (s.busy = false ∧ ∃ v, eventOf s = .write 0x000 v))

/-- R231: the `done` output falls only when a command is accepted or at reset; reading STATUS does not clear it. -/
def Obligations.DoneFallsOnlyAtAcceptanceOrReset : Prop :=
  ∀ s t : State, step s = .next t →
    (s.doneOutput = true → t.doneOutput = false →
      eventOf s = .reset ∨ (s.busy = false ∧ ∃ v, eventOf s = .write 0x000 v)) ∧
    (eventOf s = .read 0x001 → t.doneOutput = s.doneOutput)

/-- R6, R33, R34, R75: no step writes a parameter; an operand, marker or track register changes only by a host write to it while
BUSY is 0 and by reset, so a running command's inputs are those in force at its acceptance. -/
def Obligations.InputsChangeOnlyByTheHost : Prop :=
  ∀ s t : State, step s = .next t →
    t.window = s.window ∧ t.trailingInvalid = s.trailingInvalid ∧
    ∀ k, accessOf k = .readWrite → readIndex t k ≠ readIndex s k →
      eventOf s = .reset ∨ (s.busy = false ∧ ∃ v, eventOf s = .write k v)

/-- R63, R65, R183, R262: nibbles are never given back and EOS is never used up; a step takes at most one offer, and only a turn of
a busy block takes one. R65, R81, R254: the host's connection of a cursor makes that cursor the stream, and the block does not see
it. The form of a cursor and of the events is the model's (log 1, log 2, log 15). -/
def Obligations.StreamOnlyAdvances : Prop :=
  (∀ s t : State, step s = .next t → (∀ c, eventOf s ≠ .connect c) → t.stream ≠ s.stream →
    eventOf s = .turn ∧ s.busy = true ∧ ∃ o, o ≠ Offer.eos ∧ s.stream.next = some (o, t.stream)) ∧
  (∀ c rest : Cursor, c.next = some (.eos, rest) → rest = c) ∧
  (∀ (s : State) (c : Cursor) (rest : List Event), s.agenda = .connect c :: rest →
    step s = .next { s with agenda := rest, stream := c })

/-- R34, R35, R36, R37, R39, R40: the frame of every command: no command writes an operand, marker or track register or a
parameter; only RDSEC writes AF_*; only RDSEC and D62 write D62_CHK, INV_*, PAYLOAD and TWOS; a combinational command touches neither
the stream nor the matcher. -/
def Obligations.EachCommandWritesOnlyItsRegisters : Prop :=
  ∀ (i : Instr) (s t : State), exec i s = .next t →
    sameInputs s t ∧
    (i ≠ .rdsec → sameAddressField s t) ∧
    (i ≠ .rdsec → i ≠ .d62 → sameDecoder s t) ∧
    (i.streaming = false → sameMatcher s t)

/-- R39, R253: an entry of PAYLOAD changes only in the step that consumes data nibble 86 + j, or by the draw of a reset; an entry
that has a value keeps one, and a reset gives none to an entry that was never written (log 8). -/
def Obligations.PayloadChangesOnlyByItsNibble : Prop :=
  ∀ s t : State, step s = .next t → ∀ i,
    (memoryRead t.payload i ≠ memoryRead s.payload i →
      eventOf s = .reset ∨ (eventOf s = .turn ∧ s.busy = true ∧ decodePhase s.phase = true ∧
        ∃ j < 256, i = 0x100 + j ∧ s.d62Idx.toNat = 86 + j)) ∧
    (memoryRead s.payload i ≠ none → memoryRead t.payload i ≠ none) ∧
    (eventOf s = .reset → memoryRead s.payload i = none → memoryRead t.payload i = none)

/-- R23, R107, R262: a CMD write to an idle block, a turn of a busy one, and the placed table word run the decoded command; with
none running a turn changes nothing. The list of events and the placed word are the model's choice (log 1, log 9). -/
def Obligations.StepRunsTheDecodedCommand : Prop :=
  ∀ (s : State) (i : Instr),
    (∀ rest v, s.agenda = .write 0x000 v :: rest → s.busy = false → decodeByte v = .ok i →
      step s = exec i { s with agenda := rest }) ∧
    (s.agenda = [] → runningIn i s = true → step s = exec i s) ∧
    (∀ rest, s.agenda = .turn :: rest → runningIn i s = true → step s = exec i { s with agenda := rest }) ∧
    (∀ nbits w, decodeTableWord nbits w = some i →
      step (s.withFetchWord nbits w) = exec i { s with busy := false, phase := .idle }) ∧
    (s.agenda = [] → runningCommand s = none → step s = .next s)

/-- R64, R238: while the stream offers nothing a running command takes no step: nothing of the block changes. That a cursor may
have nothing listed, or list an offer of nothing that one turn uses up, is the model's choice (log 2). -/
def Obligations.RunningCommandWaitsForAnOffer : Prop :=
  ∀ (i : Instr) (s : State), runningIn i s = true →
    (s.stream.next = none → exec i s = .next s) ∧
    (∀ rest, s.stream.next = some (.nothing, rest) → exec i s = .next { s with stream := rest })

/-! ## Encodings -/

/-- R107: the 19 command bytes, each decoded from the byte written out. -/
def Obligations.LegalCommandBytes : Prop :=
  [Instr.nop, .rdsec, .d44, .l62, .d62].map encodeByte = [0x00, 0x01, 0x02, 0x03, 0x04] ∧
  [Instr.seekApro, .seekAepi, .seekDpro, .seekDepi, .seekSync].map encodeByte = [0x05, 0x15, 0x25, 0x35, 0x45] ∧
  [Instr.bsrchApro, .bsrchAepi, .bsrchDpro, .bsrchDepi, .bsrchSync].map encodeByte = [0x06, 0x16, 0x26, 0x36, 0x46] ∧
  [Instr.skip, .cka, .ckd, .ckt].map encodeByte = [0x07, 0x08, 0x09, 0x0A] ∧
  ∀ (i : Instr) (rest : List Byte), decode (encode i ++ rest) = .ok (i, rest)

/-- R104 and R240: which bytes are illegal, that 19 are legal and 237 not; what an illegal command does; what NOP does. -/
def Obligations.NopAndIllegalCommands : Prop :=
  (∀ v : Byte, (∃ e, decodeByte v = .error e) ↔
    (v.getLsbD 7 = true ∨ 0xB ≤ v.toNat % 16 ∨ (v.toNat % 16 ≠ 5 ∧ v.toNat % 16 ≠ 6 ∧ v.toNat / 16 % 8 ≠ 0) ∨
      ((v.toNat % 16 = 5 ∨ v.toNat % 16 = 6) ∧ 5 ≤ v.toNat / 16 % 8))) ∧
  ((List.range 256).filter fun n => (decodeByte (BitVec.ofNat 8 n)).toOption.isSome).length = 19 ∧
  ((List.range 256).filter fun n => (decodeByte (BitVec.ofNat 8 n)).toOption.isNone).length = 237 ∧
  (∀ (s : State) (v : Byte) (e : Illegal) (rest : List Event), s.agenda = .write 0x000 v :: rest → s.busy = false →
    decodeByte v = .error e → step s = .next (completed v .illegalCommand 0x00 { s with agenda := rest })) ∧
  (∀ s : State, s.busy = false → exec .nop s = .next (completed 0x00 .ok 0x00 s))

/-! ## Acceptance and completion -/

/-- R227: the acceptance writes of every command, and the completion of a combinational one in the same step. -/
def Obligations.AcceptanceWrites : Prop :=
  (∀ (v : Byte) (s : State), accept v s =
    { s with cmd := v, done := false, ok := false, sev := .none, wbusy := false, kind := .ok, res := 0x00 }) ∧
  (∀ (i : Instr) (s : State), s.busy = false → i.streaming = true → ∃ t, exec i s = .next t ∧
    t.cmd = encodeByte i ∧ t.busy = true ∧ t.done = false ∧ t.ok = false ∧ t.sev = .none ∧ t.wbusy = false ∧ t.kind = .ok ∧
    t.res = 0x00) ∧
  (∀ (i : Instr) (s : State), s.busy = false → i.streaming = false → ∃ t, exec i s = .next t ∧
    t.cmd = encodeByte i ∧ t.busy = false ∧ t.done = true ∧ t.wbusy = false) ∧
  (∀ (v : Byte) (s : State), illegalCommand v s = finish .illegalCommand (accept v s))

/-- R226: the completion writes, all in one step. -/
def Obligations.CompletionWrites : Prop :=
  ∀ (k : Kind) (s : State), finish k s =
    { s with busy := false, done := true, ok := decide (k = .ok), sev := kindSeverity k, kind := k, phase := .idle }

/-- R137, R164, R165 to R168, R227: what each streaming command's acceptance starts, and that it consumes no nibble. That the window
is cleared in this step is the model's (log 11). -/
def Obligations.StreamingCommandsStart : Prop :=
  ∀ s : State, s.busy = false →
    (∀ p : Pattern, exec (seekOf p) s =
      .next { accepted (encodeByte (seekOf p)) s with phase := .xSeek, win := [], wcnt := 0 }) ∧
    (∀ p : Pattern, exec (bsrchOf p) s =
      .next { accepted (encodeByte (bsrchOf p)) s with phase := .xBsrch, win := [], wcnt := 0 }) ∧
    exec .skip s = .next { accepted 0x07 s with phase := .xSkip } ∧
    exec .d62 s = .next { accepted 0x04 s with
      phase := .xD62, d62Idx := 0, d62Chk := 0, invByte := 0, invIdx := 0, inv := false } ∧
    exec .rdsec s = .next { accepted 0x01 s with
      phase := .aPro, win := [], wcnt := 0, afVol := 0x00, afTrk := 0x00, afSec := 0x00, afChk := 0x00 }

/-- R78, R232: a command issued while another runs is ignored, and WBUSY is set. -/
def Obligations.IssueWhileBusyIsIgnored : Prop :=
  ∀ (i : Instr) (s : State), s.busy = true → runningIn i s = false → exec i s = .next { s with wbusy := true }

/-! ## The codec -/

/-- R131: d44 bit by bit, and that it ignores bits 7, 5, 3 and 1 of its inputs. -/
def Obligations.D44BitByBit : Prop :=
  (∀ hi lo : Byte, d44 hi lo = ((hi &&& 0x55) <<< 1) ||| (lo &&& 0x55)) ∧
  (∀ (hi lo : Byte) (k : Nat), k < 4 →
    (d44 hi lo).getLsbD (2 * k + 1) = hi.getLsbD (2 * k) ∧ (d44 hi lo).getLsbD (2 * k) = lo.getLsbD (2 * k)) ∧
  (∀ hi lo hi' lo' : Byte, (∀ k < 4, hi.getLsbD (2 * k) = hi'.getLsbD (2 * k) ∧ lo.getLsbD (2 * k) = lo'.getLsbD (2 * k)) →
    d44 hi lo = d44 hi' lo')

/-- R92, R132 (b) and (d): decoding inverts the conformant encoding, tells conformant pairs apart, and agrees on them with the
other formula. The encoding is the spec's general knowledge (log 10). -/
def Obligations.D44OnConformantPairs : Prop :=
  (∀ x : Byte, d44 (encode44 x).1 (encode44 x).2 = x ∧ conformant44 (encode44 x).1 (encode44 x).2 = true) ∧
  (∀ hi lo : Byte, conformant44 hi lo = true → d44 hi lo = ((hi <<< 1) ||| 1) &&& lo ∧ encode44 (d44 hi lo) = (hi, lo))

/-- R134: l62 is the inverse of the alphabet, and INVALID elsewhere; the rule's examples. The table of R95 is one the spec states
from general knowledge (93 G1; log 10). -/
def Obligations.L62InvertsTheAlphabet : Prop :=
  (∀ (b : Byte) (v : Sym), l62 b = some v ↔ alphabet[v.toNat]? = some b) ∧
  (∀ b : Byte, l62 b = none ↔ b ∉ alphabet) ∧
  l62 0x96 = some 0 ∧ l62 0xAD = some 11 ∧ l62 0xEB = some 46 ∧ l62 0xFF = some 63 ∧
  l62 0xD5 = none ∧ l62 0xAA = none ∧ l62 0x00 = none ∧ l62 0x7F = none

/-- R95, R96: the alphabet has 64 entries, strictly increasing, and is characterised by the predicate of R96. Table and predicate
are the spec's general knowledge (93 G1, G2; log 10). -/
def Obligations.AlphabetPredicate : Prop :=
  alphabet.length = 64 ∧ (alphabet.map BitVec.toNat).Pairwise (· < ·) ∧
  ∀ b : Byte, b ∈ alphabet ↔
    (b.getLsbD 7 = true ∧
      (∀ k < 6, ¬ (b.getLsbD k = false ∧ b.getLsbD (k + 1) = false ∧ b.getLsbD (k + 2) = false)) ∧
      ((List.range 7).filter fun k => !b.getLsbD k && !b.getLsbD (k + 1)).length ≤ 1 ∧
      (∃ k < 6, b.getLsbD k = true ∧ b.getLsbD (k + 1) = true) ∧
      b ≠ 0xAA ∧ b ≠ 0xD5)

/-- R141: bits 5:4 of the auxiliary values 84 and 85 reach no output byte. -/
def Obligations.AuxiliaryEdge : Prop :=
  ∀ c c' : List Sym,
    (∀ k, k ≠ 84 → k ≠ 85 → c.getD k 0 = c'.getD k 0) →
    (c.getD 84 0).extractLsb' 0 4 = (c'.getD 84 0).extractLsb' 0 4 →
    (c.getD 85 0).extractLsb' 0 4 = (c'.getD 85 0).extractLsb' 0 4 →
    ∀ j < 256, outputByte c j = outputByte c' j

/-- R145: a payload encoded by the conformant encoder decodes to itself, with no invalid nibble, and the running checksum and the
trailing nibble cancel. The encoder is the spec's general knowledge (log 10). -/
def Obligations.Decode62InvertsTheConformantEncoder : Prop :=
  ∀ d : List Byte, d.length = 256 →
    (encode62 d).length = 342 ∧ (decode62 (encode62 d)).out = d ∧ (decode62 (encode62 d)).invalid = none ∧
    ∃ v, l62 (trailing62 d) = some v ∧ (decode62 (encode62 d)).checksum ^^^ v = 0

/-- R133: D44. -/
def Obligations.D44Completes : Prop :=
  ∀ s : State, s.busy = false → ∃ r : Byte,
    (∀ k < 4, r.getLsbD (2 * k + 1) = s.opa.getLsbD (2 * k) ∧ r.getLsbD (2 * k) = s.opb.getLsbD (2 * k)) ∧
    exec .d44 s = .next (completed 0x02 .ok r s)

/-- R135: L62. -/
def Obligations.L62Completes : Prop :=
  ∀ s : State, s.busy = false →
    (∀ v : Sym, alphabet[v.toNat]? = some s.opa → exec .l62 s = .next (completed 0x03 .ok (v.setWidth 8) s)) ∧
    (s.opa ∉ alphabet → exec .l62 s = .next (completed 0x03 .invalidEncodedByte 0x00 s))

/-- R138, R139, R142: one decode step with the nibble n: the running checksum, TWOS or PAYLOAD, the first invalid nibble's record,
and the counter; nothing else. For data nibble 86 + j the stored byte has the running value in its bits 7:2 and, exchanged (R12),
bits 2r + 1 and 2r of TWOS[j mod 86] in its bits 0 and 1, r being j / 86. -/
def Obligations.DecodeNibbleWrites : Prop :=
  ∀ (n : Byte) (s : State), s.d62Idx.toNat < 342 →
    (decodeNibble n s).d62Chk = s.d62Chk ^^^ (l62 n).getD 0 ∧
    (decodeNibble n s).d62Idx.toNat = s.d62Idx.toNat + 1 ∧
    (s.d62Idx.toNat < 86 → (decodeNibble n s).payload = s.payload ∧
      ∀ k < 86, (decodeNibble n s).twos[k]? =
        if k = s.d62Idx.toNat then some (s.d62Chk ^^^ (l62 n).getD 0) else s.twos[k]?) ∧
    (86 ≤ s.d62Idx.toNat → (decodeNibble n s).twos = s.twos ∧ ∃ b : Byte,
      (∀ k, memoryRead (decodeNibble n s).payload k =
        if k = 0x100 + (s.d62Idx.toNat - 86) then some b else memoryRead s.payload k) ∧
      b.extractLsb' 2 6 = s.d62Chk ^^^ (l62 n).getD 0 ∧
      b.getLsbD 0 = ((s.twos[(s.d62Idx.toNat - 86) % 86]?).getD 0).getLsbD (2 * ((s.d62Idx.toNat - 86) / 86) + 1) ∧
      b.getLsbD 1 = ((s.twos[(s.d62Idx.toNat - 86) % 86]?).getD 0).getLsbD (2 * ((s.d62Idx.toNat - 86) / 86))) ∧
    (s.inv = true ∨ l62 n ≠ none → (decodeNibble n s).inv = s.inv ∧ (decodeNibble n s).invByte = s.invByte ∧
      (decodeNibble n s).invIdx = s.invIdx) ∧
    (s.inv = false → l62 n = none → (decodeNibble n s).inv = true ∧ (decodeNibble n s).invByte = n ∧
      (decodeNibble n s).invIdx = s.d62Idx) ∧
    sameInputs s (decodeNibble n s) ∧ sameAddressField s (decodeNibble n s) ∧ sameMatcher s (decodeNibble n s) ∧
    (decodeNibble n s).cmd = s.cmd ∧ (decodeNibble n s).res = s.res ∧ (decodeNibble n s).kind = s.kind ∧
    statusByte (decodeNibble n s) = statusByte s ∧ (decodeNibble n s).phase = s.phase

/-- R144: one nibble of D62, and the completion in the step of the 342nd. -/
def Obligations.D62ConsumesANibble : Prop :=
  ∀ (s : State) (n : Byte) (rest : Cursor), runningIn .d62 s = true → s.stream.next = some (.nibble n, rest) →
    (s.d62Idx.toNat < 341 → exec .d62 s = .next (decodeNibble n { s with stream := rest })) ∧
    (s.d62Idx.toNat = 341 →
      exec .d62 s = .next (finish
        (if (decodeNibble n { s with stream := rest }).inv then .invalidEncodedByte else .ok)
        { decodeNibble n { s with stream := rest } with
          res := (decodeNibble n { s with stream := rest }).d62Chk.setWidth 8 }))

/-- R144, R147: D62 from its issue to its completion: the registers at the end are those of `decode62` of the 342 nibbles
consumed; at EOS before the 342nd nibble the failure is STREAM_EXHAUSTED and RES stays 0x00. -/
def Obligations.D62ComputesDecode62 : Prop :=
  ∀ (s : State) (ns : List Byte) (rest : Cursor), issuing .d62 s → s.stream.delivers ns = some rest →
    (ns.length = 342 → ∃ t, steps 343 s = .next t ∧
      t.stream = rest ∧ t.busy = false ∧ t.done = true ∧ t.phase = .idle ∧ t.wbusy = false ∧ t.cmd = 0x04 ∧
      t.kind = (if (decode62 ns).invalid = none then .ok else .invalidEncodedByte) ∧
      t.ok = (decode62 ns).invalid.isNone ∧ t.sev = kindSeverity t.kind ∧
      t.res = (decode62 ns).checksum.setWidth 8 ∧ t.d62Chk = (decode62 ns).checksum ∧
      invRecord t = (decode62 ns).invalid ∧
      (∀ j < 256, memoryRead t.payload (0x100 + j) = (decode62 ns).out[j]?) ∧
      sameAddressField s t ∧ sameInputs { s with agenda := [] } t) ∧
    (ns.length < 342 → rest.ended → ∃ t, steps (ns.length + 2) s = .next t ∧
      t.stream = rest ∧ t.busy = false ∧ t.done = true ∧ t.ok = false ∧ t.phase = .idle ∧ t.cmd = 0x04 ∧
      t.kind = .streamExhausted ∧ t.sev = .track ∧ t.res = 0x00 ∧ t.d62Idx.toNat = ns.length ∧
      sameAddressField s t ∧ sameInputs { s with agenda := [] } t)

/-! ## The matcher -/

/-- R161, R165: one nibble of SEEK, and its failure at EOS. -/
def Obligations.SeekConsumesANibble : Prop :=
  ∀ (p : Pattern) (s : State), runningIn (seekOf p) s = true →
    (∀ b rest, s.stream.next = some (.nibble b, rest) →
      exec (seekOf p) s = .next
        (if lastK (patternBytes p s).length (s.win ++ [b]) = patternBytes p s then
          finish .ok { s with stream := rest, win := patternBytes p s }
        else { s with stream := rest, win := lastK (patternBytes p s).length (s.win ++ [b]) })) ∧
    (∀ rest, s.stream.next = some (.eos, rest) → exec (seekOf p) s = .next (finish .markerNotFound s))

/-- R161, R164, R165: SEEK from its issue to its completion: it consumes the nibbles up to the first occurrence of the pattern,
however many they are; without one it fails with MARKER_NOT_FOUND at EOS, and runs on while there is none: no count ends it. That WIN
and WCNT are cleared in the acceptance step (the last clause with no bytes), that WCNT stays 0 in this search and that both keep their
values at completion is the model's deduction (log 11). -/
def Obligations.SeekFindsTheFirstOccurrence : Prop :=
  ∀ (p : Pattern) (s : State) (bytes : List Byte) (rest : Cursor), issuing (seekOf p) s → s.stream.delivers bytes = some rest →
    encodeByte (seekOf p) = 0x05 ||| ((seekOf p).msel.setWidth 8 <<< 4) ∧
    (firstEnd (patternBytes p s) bytes bytes.length →
      steps (bytes.length + 1) s = .next (completed (encodeByte (seekOf p)) .ok 0x00
        { s with agenda := [], stream := rest, win := patternBytes p s, wcnt := 0 })) ∧
    ((∀ m, endsAt (patternBytes p s) bytes m = false) → rest.ended →
      steps (bytes.length + 2) s = .next (completed (encodeByte (seekOf p)) .markerNotFound 0x00
        { s with agenda := [], stream := rest, win := lastK (patternBytes p s).length bytes, wcnt := 0 })) ∧
    ((∀ m, endsAt (patternBytes p s) bytes m = false) →
      steps (bytes.length + 1) s = .next { accepted (encodeByte (seekOf p)) s with
        agenda := [], stream := rest, phase := .xSeek, win := lastK (patternBytes p s).length bytes, wcnt := 0 })

/-- R264: the hang. On a stream that never contains the pattern and never offers EOS, SEEK, and RDSEC in step 1, do not terminate:
after every number n of turns the command is still running, its completion has not come, and the stream is what n turns leave. That a
turn may use up an offer of nothing and count as a step (log 2), and the form of the endless tails (log 15), are the model's choice. -/
def Obligations.EndlessSearchNeverEnds : Prop :=
  (∀ (p : Pattern) (s : State), issuing (seekOf p) s → endlessWithout (patternBytes p s) s.stream →
    ∀ n, ∃ t, steps (n + 1) s = .next t ∧ t.stream = (s.stream.taken n).2 ∧ t.done = false ∧ t.phase = .xSeek ∧
      runningIn (seekOf p) t = true) ∧
  (∀ s : State, issuing .rdsec s → endlessWithout (patternBytes .apro s) s.stream →
    ∀ n, ∃ t, steps (n + 1) s = .next t ∧ t.stream = (s.stream.taken n).2 ∧ t.done = false ∧ t.phase = .aPro ∧
      runningIn .rdsec t = true)

/-- R162, R166: one nibble of BSRCH. -/
def Obligations.BsrchConsumesANibble : Prop :=
  ∀ (p : Pattern) (s : State) (b : Byte) (rest : Cursor), runningIn (bsrchOf p) s = true → s.stream.next = some (.nibble b, rest) →
    exec (bsrchOf p) s = .next
      (if lastK (patternBytes p s).length (s.win ++ [b]) = patternBytes p s then
        finish .ok { s with stream := rest, win := patternBytes p s, wcnt := s.wcnt + 1, res := s.wcnt + 1 }
      else if s.window ≤ s.wcnt + 1 then
        finish .markerNotFound { s with
          stream := rest, win := lastK (patternBytes p s).length (s.win ++ [b]), wcnt := s.wcnt + 1, res := s.window }
      else { s with stream := rest, win := lastK (patternBytes p s).length (s.win ++ [b]), wcnt := s.wcnt + 1 })

/-- R162, R166: BSRCH from its issue to its completion: found with the pattern's last byte among the first P_WINDOW nibbles, RES the
count; not found after exactly P_WINDOW nibbles; STREAM_EXHAUSTED at EOS before that. P_WINDOW is never 0 (R6). -/
def Obligations.BsrchSearchesTheWindow : Prop :=
  ∀ (p : Pattern) (s : State) (bytes : List Byte) (rest : Cursor), issuing (bsrchOf p) s → s.window ≠ 0 →
    s.stream.delivers bytes = some rest →
    encodeByte (bsrchOf p) = 0x06 ||| ((bsrchOf p).msel.setWidth 8 <<< 4) ∧
    (firstEnd (patternBytes p s) bytes bytes.length → bytes.length ≤ s.window.toNat →
      steps (bytes.length + 1) s = .next (completed (encodeByte (bsrchOf p)) .ok (BitVec.ofNat 8 bytes.length)
        { s with agenda := [], stream := rest, win := patternBytes p s, wcnt := BitVec.ofNat 8 bytes.length })) ∧
    ((∀ m, endsAt (patternBytes p s) bytes m = false) → bytes.length = s.window.toNat →
      steps (bytes.length + 1) s = .next (completed (encodeByte (bsrchOf p)) .markerNotFound s.window
        { s with agenda := [], stream := rest, win := lastK (patternBytes p s).length bytes, wcnt := s.window })) ∧
    ((∀ m, endsAt (patternBytes p s) bytes m = false) → bytes.length < s.window.toNat → rest.ended →
      steps (bytes.length + 2) s = .next (completed (encodeByte (bsrchOf p)) .streamExhausted 0x00
        { s with
          agenda := [], stream := rest, win := lastK (patternBytes p s).length bytes
          wcnt := BitVec.ofNat 8 bytes.length }))

/-- R163, R167: SKIP. -/
def Obligations.SkipConsumesOneNibble : Prop :=
  (∀ s : State, s.busy = false → exec .skip s = .next { accepted 0x07 s with phase := .xSkip }) ∧
  (∀ (s : State) (b : Byte) (rest : Cursor), runningIn .skip s = true → s.stream.next = some (.nibble b, rest) →
    exec .skip s = .next (finish .ok { s with stream := rest, res := b })) ∧
  (∀ (s : State) (rest : Cursor), runningIn .skip s = true → s.stream.next = some (.eos, rest) →
    exec .skip s = .next (finish .streamExhausted s))

/-! ## RDSEC -/

/-- R161, R169: step 1. That a flag of the state says that no nibble of the volume pair has been read yet is the model's (log 5). -/
def Obligations.RdsecSeeksTheAddressPrologue : Prop :=
  ∀ s : State, runningIn .rdsec s = true → s.phase = .aPro →
    (∀ b rest, s.stream.next = some (.nibble b, rest) →
      exec .rdsec s = .next
        (if lastK 3 (s.win ++ [b]) = [s.cfgApro0, s.cfgApro1, s.cfgApro2] then
          { s with stream := rest, win := [s.cfgApro0, s.cfgApro1, s.cfgApro2], phase := .aVol, hiHeld := false }
        else { s with stream := rest, win := lastK 3 (s.win ++ [b]) })) ∧
    (∀ rest, s.stream.next = some (.eos, rest) → exec .rdsec s = .next (finish .addrPrologueNotFound s))

/-- R170, R171: steps 2 and 3. That a flag of the state tells the second nibble of a pair from the first is the model's (log 5). -/
def Obligations.RdsecReadsTheFieldPairs : Prop :=
  ∀ (s : State) (b : Byte) (rest : Cursor), runningIn .rdsec s = true → s.stream.next = some (.nibble b, rest) →
    (s.phase = .aVol ∨ s.phase = .aTrk ∨ s.phase = .aSec → s.hiHeld = false →
      exec .rdsec s = .next { s with stream := rest, hi := b, hiHeld := true }) ∧
    (s.phase = .aVol → s.hiHeld = true →
      exec .rdsec s = .next { s with stream := rest, hiHeld := false, afVol := d44 s.hi b, phase := .aTrk }) ∧
    (s.phase = .aTrk → s.hiHeld = true →
      exec .rdsec s = .next { s with stream := rest, hiHeld := false, afTrk := d44 s.hi b, phase := .aSec }) ∧
    (s.phase = .aSec → s.hiHeld = true → s.afTrk = s.cfgTrack →
      exec .rdsec s = .next { s with stream := rest, hiHeld := false, afSec := d44 s.hi b, phase := .aChk }) ∧
    (s.phase = .aSec → s.hiHeld = true → s.afTrk ≠ s.cfgTrack →
      exec .rdsec s = .next (finish .trackMismatch { s with stream := rest, hiHeld := false, afSec := d44 s.hi b }))

/-- R172, R201: step 4; R164: the search of step 5 starts with an empty window and a zero count. That a flag of the state tells the
second nibble of the pair from the first, and that the window is cleared in the step that enters A_EPI, is the model's (log 5,
log 11). -/
def Obligations.RdsecChecksTheAddress : Prop :=
  ∀ (s : State) (b : Byte) (rest : Cursor), runningIn .rdsec s = true → s.phase = .aChk → s.stream.next = some (.nibble b, rest) →
    (s.hiHeld = false → exec .rdsec s = .next { s with stream := rest, hi := b, hiHeld := true }) ∧
    (s.hiHeld = true → d44 s.hi b = s.afVol ^^^ s.afTrk ^^^ s.afSec →
      exec .rdsec s = .next
        { s with stream := rest, hiHeld := false, afChk := d44 s.hi b, phase := .aEpi, win := [], wcnt := 0 }) ∧
    (s.hiHeld = true → d44 s.hi b ≠ s.afVol ^^^ s.afTrk ^^^ s.afSec →
      exec .rdsec s = .next
        (finish .addrChecksumMismatch { s with stream := rest, hiHeld := false, afChk := d44 s.hi b }))

/-- R162, R173, R174: steps 5 and 6; R164: each search starts with an empty window and a zero count. That the window is cleared in
the step that enters the searching phase is the model's (log 11). -/
def Obligations.RdsecSeeksEpilogueAndSync : Prop :=
  ∀ (s : State) (b : Byte) (rest : Cursor), runningIn .rdsec s = true → s.stream.next = some (.nibble b, rest) →
    (s.phase = .aEpi →
      exec .rdsec s = .next
        (if lastK 2 (s.win ++ [b]) = [s.cfgAepi0, s.cfgAepi1] then
          { s with stream := rest, win := [s.cfgAepi0, s.cfgAepi1], wcnt := s.wcnt + 1, phase := .aEpi3 }
        else if s.window ≤ s.wcnt + 1 then
          finish .addrEpilogueNotFound { s with stream := rest, win := lastK 2 (s.win ++ [b]), wcnt := s.wcnt + 1 }
        else { s with stream := rest, win := lastK 2 (s.win ++ [b]), wcnt := s.wcnt + 1 })) ∧
    (s.phase = .aEpi3 → exec .rdsec s = .next { s with stream := rest, phase := .dSync, win := [], wcnt := 0 }) ∧
    (s.phase = .dSync →
      exec .rdsec s = .next
        (if b = 0xFF then { s with stream := rest, win := [], wcnt := 0, phase := .dPro }
        else if s.window ≤ s.wcnt + 1 then
          finish .dataSyncNotFound { s with stream := rest, win := [b], wcnt := s.wcnt + 1 }
        else { s with stream := rest, win := [b], wcnt := s.wcnt + 1 }))

/-- R175: step 7, with the decode start of R137. -/
def Obligations.RdsecSeeksTheDataPrologue : Prop :=
  ∀ (s : State) (b : Byte) (rest : Cursor), runningIn .rdsec s = true → s.phase = .dPro → s.stream.next = some (.nibble b, rest) →
    exec .rdsec s = .next
      (if lastK 3 (s.win ++ [b]) = [s.cfgDpro0, s.cfgDpro1, s.cfgDpro2] then
        { s with
          stream := rest, win := [s.cfgDpro0, s.cfgDpro1, s.cfgDpro2], wcnt := s.wcnt + 1, phase := .dData
          d62Idx := 0, d62Chk := 0, invByte := 0, invIdx := 0, inv := false }
      else if s.window ≤ s.wcnt + 1 then
        finish .dataPrologueNotFound { s with stream := rest, win := lastK 3 (s.win ++ [b]), wcnt := s.wcnt + 1 }
      else { s with stream := rest, win := lastK 3 (s.win ++ [b]), wcnt := s.wcnt + 1 })

/-- R176: step 8. -/
def Obligations.RdsecDecodesTheData : Prop :=
  ∀ (s : State) (n : Byte) (rest : Cursor), runningIn .rdsec s = true → s.phase = .dData → s.stream.next = some (.nibble n, rest) →
    (s.d62Idx.toNat < 341 → exec .rdsec s = .next (decodeNibble n { s with stream := rest })) ∧
    (s.d62Idx.toNat = 341 → (decodeNibble n { s with stream := rest }).inv = true →
      exec .rdsec s = .next (finish .corruptSectorData (decodeNibble n { s with stream := rest }))) ∧
    (s.d62Idx.toNat = 341 → (decodeNibble n { s with stream := rest }).inv = false →
      exec .rdsec s = .next { decodeNibble n { s with stream := rest } with phase := .dChk })

/-- R177: step 9, for both values of P_TRAILING_INVALID; R164: the search of step 10 starts with an empty window and a zero count.
That the window is cleared in the step that enters D_EPI is the model's (log 11). -/
def Obligations.RdsecChecksTheTrailingNibble : Prop :=
  ∀ (s : State) (b : Byte) (rest : Cursor), runningIn .rdsec s = true → s.phase = .dChk → s.stream.next = some (.nibble b, rest) →
    (l62 b = none → s.trailingInvalid = .dataChecksumMismatch →
      exec .rdsec s = .next (finish .dataChecksumMismatch { s with stream := rest })) ∧
    (l62 b = none → s.trailingInvalid = .corruptSectorData →
      exec .rdsec s = .next (finish .corruptSectorData { s with stream := rest })) ∧
    (∀ v, l62 b = some v → s.d62Chk ≠ v → exec .rdsec s = .next (finish .dataChecksumMismatch { s with stream := rest })) ∧
    (∀ v, l62 b = some v → s.d62Chk = v →
      exec .rdsec s = .next { s with stream := rest, phase := .dEpi, win := [], wcnt := 0 })

/-- R162, R178, R179: steps 10 and 11; a search that fails consumes nothing further (90 C2, 92 D11). -/
def Obligations.RdsecEndsTheSector : Prop :=
  ∀ (s : State) (b : Byte) (rest : Cursor), runningIn .rdsec s = true → s.stream.next = some (.nibble b, rest) →
    (s.phase = .dEpi →
      exec .rdsec s = .next
        (if lastK 2 (s.win ++ [b]) = [s.cfgDepi0, s.cfgDepi1] then
          { s with stream := rest, win := [s.cfgDepi0, s.cfgDepi1], wcnt := s.wcnt + 1, phase := .dEpi3 }
        else if s.window ≤ s.wcnt + 1 then
          finish .dataEpilogueNotFound { s with stream := rest, win := lastK 2 (s.win ++ [b]), wcnt := s.wcnt + 1 }
        else { s with stream := rest, win := lastK 2 (s.win ++ [b]), wcnt := s.wcnt + 1 })) ∧
    (s.phase = .dEpi3 → exec .rdsec s = .next (finish .ok { s with stream := rest, res := s.afSec }))

/-- R180: EOS at any nibble of RDSEC after step 1, and at any nibble of BSRCH, SKIP and D62; the registers keep what was written. -/
def Obligations.EndOfStreamExhausts : Prop :=
  ∀ (i : Instr) (s : State) (rest : Cursor), runningIn i s = true → s.stream.next = some (.eos, rest) →
    (∀ p, i ≠ seekOf p) → s.phase ≠ .aPro → exec i s = .next (finish .streamExhausted s)

/-- R168 to R182: an attempt that succeeds, from its issue to its completion: the prologue after any nibbles, the matching track,
the address checksum, each marker within its window, 342 symbols and their checksum. It consumes exactly the nibbles R182 counts and
leaves the sector's number in AF_SEC and RES and its payload in PAYLOAD. -/
def Obligations.RdsecReadsASector : Prop :=
  ∀ (s : State) (rest : Cursor) (a1 e5 e6 e7 ns e10 : List Byte) (v1 v2 t1 t2 s1 s2 c1 c2 x5 tr x10 : Byte) (v : Sym),
    issuing .rdsec s →
    s.stream.delivers (a1 ++ [v1, v2, t1, t2, s1, s2, c1, c2] ++ e5 ++ [x5] ++ e6 ++ e7 ++ ns ++ [tr] ++ e10 ++ [x10]) = some rest →
    firstEnd (patternBytes .apro s) a1 a1.length →
    d44 t1 t2 = s.cfgTrack →
    d44 c1 c2 = d44 v1 v2 ^^^ d44 t1 t2 ^^^ d44 s1 s2 →
    firstEnd (patternBytes .aepi s) e5 e5.length → e5.length ≤ s.window.toNat →
    firstEnd (patternBytes .sync s) e6 e6.length → e6.length ≤ s.window.toNat →
    firstEnd (patternBytes .dpro s) e7 e7.length → e7.length ≤ s.window.toNat →
    ns.length = 342 → allSymbols ns → l62 tr = some v → v = (decode62 ns).checksum →
    firstEnd (patternBytes .depi s) e10 e10.length → e10.length ≤ s.window.toNat →
    ∃ t, steps (1 + (a1.length + 8 + e5.length + 1 + e6.length + e7.length + 342 + 1 + e10.length + 1)) s = .next t ∧
      t.stream = rest ∧ t.busy = false ∧ t.done = true ∧ t.ok = true ∧ t.kind = .ok ∧ t.sev = .none ∧ t.wbusy = false ∧
      t.cmd = 0x01 ∧ t.phase = .idle ∧
      t.afVol = d44 v1 v2 ∧ t.afTrk = d44 t1 t2 ∧ t.afSec = d44 s1 s2 ∧ t.afChk = d44 c1 c2 ∧ t.res = d44 s1 s2 ∧
      t.d62Chk = (decode62 ns).checksum ∧ t.inv = false ∧
      (∀ j < 256, memoryRead t.payload (0x100 + j) = (decode62 ns).out[j]?) ∧
      sameInputs { s with agenda := [] } t

/-! ## The checksum validator -/

/-- R204: CKA. -/
def Obligations.CkaCompletes : Prop :=
  ∀ s : State, s.busy = false → exec .cka s =
    .next (completed 0x08 (if s.opd = s.opa ^^^ s.opb ^^^ s.opc then .ok else .compareMismatch) (s.opa ^^^ s.opb ^^^ s.opc) s)

/-- R205: CKD. -/
def Obligations.CkdCompletes : Prop :=
  ∀ s : State, s.busy = false →
    (s.opa ∉ alphabet → exec .ckd s = .next (completed 0x09 .invalidEncodedByte 0x00 s)) ∧
    (∀ v : Sym, alphabet[v.toNat]? = some s.opa →
      exec .ckd s = .next (completed 0x09 (if s.d62Chk = v then .ok else .compareMismatch) (v.setWidth 8) s))

/-- R206: CKT; RES is 0x00 exactly when it succeeds. -/
def Obligations.CktCompletes : Prop :=
  ∀ s : State, s.busy = false →
    exec .ckt s =
      .next (completed 0x0A (if s.opa = s.cfgTrack then .ok else .compareMismatch) (s.opa ^^^ s.cfgTrack) s) ∧
    (s.opa ^^^ s.cfgTrack = 0x00 ↔ s.opa = s.cfgTrack)

/-! ## Invariants -/

/-- The invariant holds after reset (R48). Its clauses about P_WINDOW hold of the value this hardware has (R6). -/
def Obligations.ResetMeetsTheInvariant : Prop := Inv State.reset

/-- R24, R25, R27, R37, R38, R39, R113, R162, R171, R172, R179: every step keeps the invariant: the status registers agree with each
other and with PHASE; a bounded search stays below its window; the payload buffer is in form; the decoder's counter, record and payload
agree; the checks an attempt has passed hold; a failure kind is one its command can raise. -/
def Obligations.StepKeepsTheInvariant : Prop := ∀ s t : State, Inv s → step s = .next t → Inv t

/-- R39, R61: every step keeps the payload buffer in form: indices strictly rising, each in 0x100..0x1FF. -/
def Obligations.StepKeepsThePayloadInForm : Prop := ∀ s t : State, PayloadInv s → step s = .next t → PayloadInv t

/-- R24, R25, R26, R27, R29, R30, R38: every step keeps the status registers in agreement: PHASE is IDLE exactly when BUSY is 0,
BUSY and DONE are never both 1, OK is 1 after a completion exactly when KIND is 0, SEV is KIND's severity, and a busy block runs the
command CMD holds. -/
def Obligations.StepKeepsTheStatusInForm : Prop := ∀ s t : State, StatusInv s → step s = .next t → StatusInv t

/-- R39, R253: after a successful RDSEC every entry of PAYLOAD can be read, the address checksum holds, no invalid nibble is recorded
and RES is the sector. -/
def Obligations.SuccessLeavesAReadableSector : Prop :=
  ∀ s : State, Inv s → s.ok = true → s.cmd = encodeByte .rdsec →
    (∀ j < 256, ∃ b, readIndex s (0x100 + j) = .ok b) ∧ s.afChk = s.afVol ^^^ s.afTrk ^^^ s.afSec ∧ s.inv = false ∧ s.res = s.afSec

/-! ## The host's side -/

/-- R82: the sixteen sector numbers of the interleave table; the assembled track has 4096 bytes, each logical slot the payload of the
sector the table names or zeros; an image of N tracks has N × 4096 bytes, with track t at bytes t × 4096 on. -/
def Obligations.AssembledImageLayout : Prop :=
  interleave.map BitVec.toNat = [0, 13, 11, 9, 7, 5, 3, 1, 14, 12, 10, 8, 6, 4, 2, 15] ∧
  (∀ map : SectorMap, (∀ e ∈ map, e.2.length = 256) →
    (assembleTrack map).length = 4096 ∧
    ∀ i < 16, ((assembleTrack map).drop (256 * i)).take 256 =
      (sectorFind map (interleave.getD i 0)).getD (List.replicate 256 0)) ∧
  (∀ tracks : List SectorMap, (∀ map ∈ tracks, ∀ e ∈ map, e.2.length = 256) →
    (assembleImage tracks).length = tracks.length * 4096 ∧
    ∀ t < tracks.length, ((assembleImage tracks).drop (4096 * t)).take 4096 = assembleTrack (tracks.getD t []))
end

