-- ==== Sys2Proof/Laws/State.lean ====
section
/-! SUPPORT. What each named update of the state does to each field: one lemma per field per update, all by rfl. -/

namespace Sys2Proof.Machine

/-! ## accept -/

@[simp] theorem accept_cmd (v : Byte) (s : State) : (accept v s).cmd = v := rfl
@[simp] theorem accept_busy (v : Byte) (s : State) : (accept v s).busy = s.busy := rfl
@[simp] theorem accept_done (v : Byte) (s : State) : (accept v s).done = false := rfl
@[simp] theorem accept_ok (v : Byte) (s : State) : (accept v s).ok = false := rfl
@[simp] theorem accept_wbusy (v : Byte) (s : State) : (accept v s).wbusy = false := rfl
@[simp] theorem accept_sev (v : Byte) (s : State) : (accept v s).sev = .none := rfl
@[simp] theorem accept_kind (v : Byte) (s : State) : (accept v s).kind = .ok := rfl
@[simp] theorem accept_res (v : Byte) (s : State) : (accept v s).res = 0x00 := rfl
@[simp] theorem accept_opa (v : Byte) (s : State) : (accept v s).opa = s.opa := rfl
@[simp] theorem accept_opb (v : Byte) (s : State) : (accept v s).opb = s.opb := rfl
@[simp] theorem accept_opc (v : Byte) (s : State) : (accept v s).opc = s.opc := rfl
@[simp] theorem accept_opd (v : Byte) (s : State) : (accept v s).opd = s.opd := rfl
@[simp] theorem accept_cfgTrack (v : Byte) (s : State) : (accept v s).cfgTrack = s.cfgTrack := rfl
@[simp] theorem accept_cfgApro0 (v : Byte) (s : State) : (accept v s).cfgApro0 = s.cfgApro0 := rfl
@[simp] theorem accept_cfgApro1 (v : Byte) (s : State) : (accept v s).cfgApro1 = s.cfgApro1 := rfl
@[simp] theorem accept_cfgApro2 (v : Byte) (s : State) : (accept v s).cfgApro2 = s.cfgApro2 := rfl
@[simp] theorem accept_cfgAepi0 (v : Byte) (s : State) : (accept v s).cfgAepi0 = s.cfgAepi0 := rfl
@[simp] theorem accept_cfgAepi1 (v : Byte) (s : State) : (accept v s).cfgAepi1 = s.cfgAepi1 := rfl
@[simp] theorem accept_cfgAepi2 (v : Byte) (s : State) : (accept v s).cfgAepi2 = s.cfgAepi2 := rfl
@[simp] theorem accept_cfgDpro0 (v : Byte) (s : State) : (accept v s).cfgDpro0 = s.cfgDpro0 := rfl
@[simp] theorem accept_cfgDpro1 (v : Byte) (s : State) : (accept v s).cfgDpro1 = s.cfgDpro1 := rfl
@[simp] theorem accept_cfgDpro2 (v : Byte) (s : State) : (accept v s).cfgDpro2 = s.cfgDpro2 := rfl
@[simp] theorem accept_cfgDepi0 (v : Byte) (s : State) : (accept v s).cfgDepi0 = s.cfgDepi0 := rfl
@[simp] theorem accept_cfgDepi1 (v : Byte) (s : State) : (accept v s).cfgDepi1 = s.cfgDepi1 := rfl
@[simp] theorem accept_cfgDepi2 (v : Byte) (s : State) : (accept v s).cfgDepi2 = s.cfgDepi2 := rfl
@[simp] theorem accept_afVol (v : Byte) (s : State) : (accept v s).afVol = s.afVol := rfl
@[simp] theorem accept_afTrk (v : Byte) (s : State) : (accept v s).afTrk = s.afTrk := rfl
@[simp] theorem accept_afSec (v : Byte) (s : State) : (accept v s).afSec = s.afSec := rfl
@[simp] theorem accept_afChk (v : Byte) (s : State) : (accept v s).afChk = s.afChk := rfl
@[simp] theorem accept_d62Chk (v : Byte) (s : State) : (accept v s).d62Chk = s.d62Chk := rfl
@[simp] theorem accept_invByte (v : Byte) (s : State) : (accept v s).invByte = s.invByte := rfl
@[simp] theorem accept_invIdx (v : Byte) (s : State) : (accept v s).invIdx = s.invIdx := rfl
@[simp] theorem accept_inv (v : Byte) (s : State) : (accept v s).inv = s.inv := rfl
@[simp] theorem accept_phase (v : Byte) (s : State) : (accept v s).phase = s.phase := rfl
@[simp] theorem accept_payload (v : Byte) (s : State) : (accept v s).payload = s.payload := rfl
@[simp] theorem accept_twos (v : Byte) (s : State) : (accept v s).twos = s.twos := rfl
@[simp] theorem accept_win (v : Byte) (s : State) : (accept v s).win = s.win := rfl
@[simp] theorem accept_wcnt (v : Byte) (s : State) : (accept v s).wcnt = s.wcnt := rfl
@[simp] theorem accept_hi (v : Byte) (s : State) : (accept v s).hi = s.hi := rfl
@[simp] theorem accept_hiHeld (v : Byte) (s : State) : (accept v s).hiHeld = s.hiHeld := rfl
@[simp] theorem accept_d62Idx (v : Byte) (s : State) : (accept v s).d62Idx = s.d62Idx := rfl
@[simp] theorem accept_window (v : Byte) (s : State) : (accept v s).window = s.window := rfl
@[simp] theorem accept_trailingInvalid (v : Byte) (s : State) : (accept v s).trailingInvalid = s.trailingInvalid := rfl
@[simp] theorem accept_stream (v : Byte) (s : State) : (accept v s).stream = s.stream := rfl
@[simp] theorem accept_agenda (v : Byte) (s : State) : (accept v s).agenda = s.agenda := rfl
@[simp] theorem accept_reads (v : Byte) (s : State) : (accept v s).reads = s.reads := rfl
@[simp] theorem accept_draws (v : Byte) (s : State) : (accept v s).draws = s.draws := rfl

/-! ## finish -/

@[simp] theorem finish_cmd (k : Kind) (s : State) : (finish k s).cmd = s.cmd := rfl
@[simp] theorem finish_busy (k : Kind) (s : State) : (finish k s).busy = false := rfl
@[simp] theorem finish_done (k : Kind) (s : State) : (finish k s).done = true := rfl
@[simp] theorem finish_ok (k : Kind) (s : State) : (finish k s).ok = (k == .ok) := rfl
@[simp] theorem finish_wbusy (k : Kind) (s : State) : (finish k s).wbusy = s.wbusy := rfl
@[simp] theorem finish_sev (k : Kind) (s : State) : (finish k s).sev = kindSeverity k := rfl
@[simp] theorem finish_kind (k : Kind) (s : State) : (finish k s).kind = k := rfl
@[simp] theorem finish_res (k : Kind) (s : State) : (finish k s).res = s.res := rfl
@[simp] theorem finish_opa (k : Kind) (s : State) : (finish k s).opa = s.opa := rfl
@[simp] theorem finish_opb (k : Kind) (s : State) : (finish k s).opb = s.opb := rfl
@[simp] theorem finish_opc (k : Kind) (s : State) : (finish k s).opc = s.opc := rfl
@[simp] theorem finish_opd (k : Kind) (s : State) : (finish k s).opd = s.opd := rfl
@[simp] theorem finish_cfgTrack (k : Kind) (s : State) : (finish k s).cfgTrack = s.cfgTrack := rfl
@[simp] theorem finish_cfgApro0 (k : Kind) (s : State) : (finish k s).cfgApro0 = s.cfgApro0 := rfl
@[simp] theorem finish_cfgApro1 (k : Kind) (s : State) : (finish k s).cfgApro1 = s.cfgApro1 := rfl
@[simp] theorem finish_cfgApro2 (k : Kind) (s : State) : (finish k s).cfgApro2 = s.cfgApro2 := rfl
@[simp] theorem finish_cfgAepi0 (k : Kind) (s : State) : (finish k s).cfgAepi0 = s.cfgAepi0 := rfl
@[simp] theorem finish_cfgAepi1 (k : Kind) (s : State) : (finish k s).cfgAepi1 = s.cfgAepi1 := rfl
@[simp] theorem finish_cfgAepi2 (k : Kind) (s : State) : (finish k s).cfgAepi2 = s.cfgAepi2 := rfl
@[simp] theorem finish_cfgDpro0 (k : Kind) (s : State) : (finish k s).cfgDpro0 = s.cfgDpro0 := rfl
@[simp] theorem finish_cfgDpro1 (k : Kind) (s : State) : (finish k s).cfgDpro1 = s.cfgDpro1 := rfl
@[simp] theorem finish_cfgDpro2 (k : Kind) (s : State) : (finish k s).cfgDpro2 = s.cfgDpro2 := rfl
@[simp] theorem finish_cfgDepi0 (k : Kind) (s : State) : (finish k s).cfgDepi0 = s.cfgDepi0 := rfl
@[simp] theorem finish_cfgDepi1 (k : Kind) (s : State) : (finish k s).cfgDepi1 = s.cfgDepi1 := rfl
@[simp] theorem finish_cfgDepi2 (k : Kind) (s : State) : (finish k s).cfgDepi2 = s.cfgDepi2 := rfl
@[simp] theorem finish_afVol (k : Kind) (s : State) : (finish k s).afVol = s.afVol := rfl
@[simp] theorem finish_afTrk (k : Kind) (s : State) : (finish k s).afTrk = s.afTrk := rfl
@[simp] theorem finish_afSec (k : Kind) (s : State) : (finish k s).afSec = s.afSec := rfl
@[simp] theorem finish_afChk (k : Kind) (s : State) : (finish k s).afChk = s.afChk := rfl
@[simp] theorem finish_d62Chk (k : Kind) (s : State) : (finish k s).d62Chk = s.d62Chk := rfl
@[simp] theorem finish_invByte (k : Kind) (s : State) : (finish k s).invByte = s.invByte := rfl
@[simp] theorem finish_invIdx (k : Kind) (s : State) : (finish k s).invIdx = s.invIdx := rfl
@[simp] theorem finish_inv (k : Kind) (s : State) : (finish k s).inv = s.inv := rfl
@[simp] theorem finish_phase (k : Kind) (s : State) : (finish k s).phase = .idle := rfl
@[simp] theorem finish_payload (k : Kind) (s : State) : (finish k s).payload = s.payload := rfl
@[simp] theorem finish_twos (k : Kind) (s : State) : (finish k s).twos = s.twos := rfl
@[simp] theorem finish_win (k : Kind) (s : State) : (finish k s).win = s.win := rfl
@[simp] theorem finish_wcnt (k : Kind) (s : State) : (finish k s).wcnt = s.wcnt := rfl
@[simp] theorem finish_hi (k : Kind) (s : State) : (finish k s).hi = s.hi := rfl
@[simp] theorem finish_hiHeld (k : Kind) (s : State) : (finish k s).hiHeld = s.hiHeld := rfl
@[simp] theorem finish_d62Idx (k : Kind) (s : State) : (finish k s).d62Idx = s.d62Idx := rfl
@[simp] theorem finish_window (k : Kind) (s : State) : (finish k s).window = s.window := rfl
@[simp] theorem finish_trailingInvalid (k : Kind) (s : State) : (finish k s).trailingInvalid = s.trailingInvalid := rfl
@[simp] theorem finish_stream (k : Kind) (s : State) : (finish k s).stream = s.stream := rfl
@[simp] theorem finish_agenda (k : Kind) (s : State) : (finish k s).agenda = s.agenda := rfl
@[simp] theorem finish_reads (k : Kind) (s : State) : (finish k s).reads = s.reads := rfl
@[simp] theorem finish_draws (k : Kind) (s : State) : (finish k s).draws = s.draws := rfl

/-! ## startStreaming -/

@[simp] theorem startStreaming_cmd (p : Phase) (s : State) : (startStreaming p s).cmd = s.cmd := rfl
@[simp] theorem startStreaming_busy (p : Phase) (s : State) : (startStreaming p s).busy = true := rfl
@[simp] theorem startStreaming_done (p : Phase) (s : State) : (startStreaming p s).done = s.done := rfl
@[simp] theorem startStreaming_ok (p : Phase) (s : State) : (startStreaming p s).ok = s.ok := rfl
@[simp] theorem startStreaming_wbusy (p : Phase) (s : State) : (startStreaming p s).wbusy = s.wbusy := rfl
@[simp] theorem startStreaming_sev (p : Phase) (s : State) : (startStreaming p s).sev = s.sev := rfl
@[simp] theorem startStreaming_kind (p : Phase) (s : State) : (startStreaming p s).kind = s.kind := rfl
@[simp] theorem startStreaming_res (p : Phase) (s : State) : (startStreaming p s).res = s.res := rfl
@[simp] theorem startStreaming_opa (p : Phase) (s : State) : (startStreaming p s).opa = s.opa := rfl
@[simp] theorem startStreaming_opb (p : Phase) (s : State) : (startStreaming p s).opb = s.opb := rfl
@[simp] theorem startStreaming_opc (p : Phase) (s : State) : (startStreaming p s).opc = s.opc := rfl
@[simp] theorem startStreaming_opd (p : Phase) (s : State) : (startStreaming p s).opd = s.opd := rfl
@[simp] theorem startStreaming_cfgTrack (p : Phase) (s : State) : (startStreaming p s).cfgTrack = s.cfgTrack := rfl
@[simp] theorem startStreaming_cfgApro0 (p : Phase) (s : State) : (startStreaming p s).cfgApro0 = s.cfgApro0 := rfl
@[simp] theorem startStreaming_cfgApro1 (p : Phase) (s : State) : (startStreaming p s).cfgApro1 = s.cfgApro1 := rfl
@[simp] theorem startStreaming_cfgApro2 (p : Phase) (s : State) : (startStreaming p s).cfgApro2 = s.cfgApro2 := rfl
@[simp] theorem startStreaming_cfgAepi0 (p : Phase) (s : State) : (startStreaming p s).cfgAepi0 = s.cfgAepi0 := rfl
@[simp] theorem startStreaming_cfgAepi1 (p : Phase) (s : State) : (startStreaming p s).cfgAepi1 = s.cfgAepi1 := rfl
@[simp] theorem startStreaming_cfgAepi2 (p : Phase) (s : State) : (startStreaming p s).cfgAepi2 = s.cfgAepi2 := rfl
@[simp] theorem startStreaming_cfgDpro0 (p : Phase) (s : State) : (startStreaming p s).cfgDpro0 = s.cfgDpro0 := rfl
@[simp] theorem startStreaming_cfgDpro1 (p : Phase) (s : State) : (startStreaming p s).cfgDpro1 = s.cfgDpro1 := rfl
@[simp] theorem startStreaming_cfgDpro2 (p : Phase) (s : State) : (startStreaming p s).cfgDpro2 = s.cfgDpro2 := rfl
@[simp] theorem startStreaming_cfgDepi0 (p : Phase) (s : State) : (startStreaming p s).cfgDepi0 = s.cfgDepi0 := rfl
@[simp] theorem startStreaming_cfgDepi1 (p : Phase) (s : State) : (startStreaming p s).cfgDepi1 = s.cfgDepi1 := rfl
@[simp] theorem startStreaming_cfgDepi2 (p : Phase) (s : State) : (startStreaming p s).cfgDepi2 = s.cfgDepi2 := rfl
@[simp] theorem startStreaming_afVol (p : Phase) (s : State) : (startStreaming p s).afVol = s.afVol := rfl
@[simp] theorem startStreaming_afTrk (p : Phase) (s : State) : (startStreaming p s).afTrk = s.afTrk := rfl
@[simp] theorem startStreaming_afSec (p : Phase) (s : State) : (startStreaming p s).afSec = s.afSec := rfl
@[simp] theorem startStreaming_afChk (p : Phase) (s : State) : (startStreaming p s).afChk = s.afChk := rfl
@[simp] theorem startStreaming_d62Chk (p : Phase) (s : State) : (startStreaming p s).d62Chk = s.d62Chk := rfl
@[simp] theorem startStreaming_invByte (p : Phase) (s : State) : (startStreaming p s).invByte = s.invByte := rfl
@[simp] theorem startStreaming_invIdx (p : Phase) (s : State) : (startStreaming p s).invIdx = s.invIdx := rfl
@[simp] theorem startStreaming_inv (p : Phase) (s : State) : (startStreaming p s).inv = s.inv := rfl
@[simp] theorem startStreaming_phase (p : Phase) (s : State) : (startStreaming p s).phase = p := rfl
@[simp] theorem startStreaming_payload (p : Phase) (s : State) : (startStreaming p s).payload = s.payload := rfl
@[simp] theorem startStreaming_twos (p : Phase) (s : State) : (startStreaming p s).twos = s.twos := rfl
@[simp] theorem startStreaming_win (p : Phase) (s : State) : (startStreaming p s).win = s.win := rfl
@[simp] theorem startStreaming_wcnt (p : Phase) (s : State) : (startStreaming p s).wcnt = s.wcnt := rfl
@[simp] theorem startStreaming_hi (p : Phase) (s : State) : (startStreaming p s).hi = s.hi := rfl
@[simp] theorem startStreaming_hiHeld (p : Phase) (s : State) : (startStreaming p s).hiHeld = s.hiHeld := rfl
@[simp] theorem startStreaming_d62Idx (p : Phase) (s : State) : (startStreaming p s).d62Idx = s.d62Idx := rfl
@[simp] theorem startStreaming_window (p : Phase) (s : State) : (startStreaming p s).window = s.window := rfl
@[simp] theorem startStreaming_trailingInvalid (p : Phase) (s : State) : (startStreaming p s).trailingInvalid = s.trailingInvalid := rfl
@[simp] theorem startStreaming_stream (p : Phase) (s : State) : (startStreaming p s).stream = s.stream := rfl
@[simp] theorem startStreaming_agenda (p : Phase) (s : State) : (startStreaming p s).agenda = s.agenda := rfl
@[simp] theorem startStreaming_reads (p : Phase) (s : State) : (startStreaming p s).reads = s.reads := rfl
@[simp] theorem startStreaming_draws (p : Phase) (s : State) : (startStreaming p s).draws = s.draws := rfl

/-! ## ignoreWrite -/

@[simp] theorem ignoreWrite_cmd (s : State) : (ignoreWrite s).cmd = s.cmd := rfl
@[simp] theorem ignoreWrite_busy (s : State) : (ignoreWrite s).busy = s.busy := rfl
@[simp] theorem ignoreWrite_done (s : State) : (ignoreWrite s).done = s.done := rfl
@[simp] theorem ignoreWrite_ok (s : State) : (ignoreWrite s).ok = s.ok := rfl
@[simp] theorem ignoreWrite_wbusy (s : State) : (ignoreWrite s).wbusy = true := rfl
@[simp] theorem ignoreWrite_sev (s : State) : (ignoreWrite s).sev = s.sev := rfl
@[simp] theorem ignoreWrite_kind (s : State) : (ignoreWrite s).kind = s.kind := rfl
@[simp] theorem ignoreWrite_res (s : State) : (ignoreWrite s).res = s.res := rfl
@[simp] theorem ignoreWrite_opa (s : State) : (ignoreWrite s).opa = s.opa := rfl
@[simp] theorem ignoreWrite_opb (s : State) : (ignoreWrite s).opb = s.opb := rfl
@[simp] theorem ignoreWrite_opc (s : State) : (ignoreWrite s).opc = s.opc := rfl
@[simp] theorem ignoreWrite_opd (s : State) : (ignoreWrite s).opd = s.opd := rfl
@[simp] theorem ignoreWrite_cfgTrack (s : State) : (ignoreWrite s).cfgTrack = s.cfgTrack := rfl
@[simp] theorem ignoreWrite_cfgApro0 (s : State) : (ignoreWrite s).cfgApro0 = s.cfgApro0 := rfl
@[simp] theorem ignoreWrite_cfgApro1 (s : State) : (ignoreWrite s).cfgApro1 = s.cfgApro1 := rfl
@[simp] theorem ignoreWrite_cfgApro2 (s : State) : (ignoreWrite s).cfgApro2 = s.cfgApro2 := rfl
@[simp] theorem ignoreWrite_cfgAepi0 (s : State) : (ignoreWrite s).cfgAepi0 = s.cfgAepi0 := rfl
@[simp] theorem ignoreWrite_cfgAepi1 (s : State) : (ignoreWrite s).cfgAepi1 = s.cfgAepi1 := rfl
@[simp] theorem ignoreWrite_cfgAepi2 (s : State) : (ignoreWrite s).cfgAepi2 = s.cfgAepi2 := rfl
@[simp] theorem ignoreWrite_cfgDpro0 (s : State) : (ignoreWrite s).cfgDpro0 = s.cfgDpro0 := rfl
@[simp] theorem ignoreWrite_cfgDpro1 (s : State) : (ignoreWrite s).cfgDpro1 = s.cfgDpro1 := rfl
@[simp] theorem ignoreWrite_cfgDpro2 (s : State) : (ignoreWrite s).cfgDpro2 = s.cfgDpro2 := rfl
@[simp] theorem ignoreWrite_cfgDepi0 (s : State) : (ignoreWrite s).cfgDepi0 = s.cfgDepi0 := rfl
@[simp] theorem ignoreWrite_cfgDepi1 (s : State) : (ignoreWrite s).cfgDepi1 = s.cfgDepi1 := rfl
@[simp] theorem ignoreWrite_cfgDepi2 (s : State) : (ignoreWrite s).cfgDepi2 = s.cfgDepi2 := rfl
@[simp] theorem ignoreWrite_afVol (s : State) : (ignoreWrite s).afVol = s.afVol := rfl
@[simp] theorem ignoreWrite_afTrk (s : State) : (ignoreWrite s).afTrk = s.afTrk := rfl
@[simp] theorem ignoreWrite_afSec (s : State) : (ignoreWrite s).afSec = s.afSec := rfl
@[simp] theorem ignoreWrite_afChk (s : State) : (ignoreWrite s).afChk = s.afChk := rfl
@[simp] theorem ignoreWrite_d62Chk (s : State) : (ignoreWrite s).d62Chk = s.d62Chk := rfl
@[simp] theorem ignoreWrite_invByte (s : State) : (ignoreWrite s).invByte = s.invByte := rfl
@[simp] theorem ignoreWrite_invIdx (s : State) : (ignoreWrite s).invIdx = s.invIdx := rfl
@[simp] theorem ignoreWrite_inv (s : State) : (ignoreWrite s).inv = s.inv := rfl
@[simp] theorem ignoreWrite_phase (s : State) : (ignoreWrite s).phase = s.phase := rfl
@[simp] theorem ignoreWrite_payload (s : State) : (ignoreWrite s).payload = s.payload := rfl
@[simp] theorem ignoreWrite_twos (s : State) : (ignoreWrite s).twos = s.twos := rfl
@[simp] theorem ignoreWrite_win (s : State) : (ignoreWrite s).win = s.win := rfl
@[simp] theorem ignoreWrite_wcnt (s : State) : (ignoreWrite s).wcnt = s.wcnt := rfl
@[simp] theorem ignoreWrite_hi (s : State) : (ignoreWrite s).hi = s.hi := rfl
@[simp] theorem ignoreWrite_hiHeld (s : State) : (ignoreWrite s).hiHeld = s.hiHeld := rfl
@[simp] theorem ignoreWrite_d62Idx (s : State) : (ignoreWrite s).d62Idx = s.d62Idx := rfl
@[simp] theorem ignoreWrite_window (s : State) : (ignoreWrite s).window = s.window := rfl
@[simp] theorem ignoreWrite_trailingInvalid (s : State) : (ignoreWrite s).trailingInvalid = s.trailingInvalid := rfl
@[simp] theorem ignoreWrite_stream (s : State) : (ignoreWrite s).stream = s.stream := rfl
@[simp] theorem ignoreWrite_agenda (s : State) : (ignoreWrite s).agenda = s.agenda := rfl
@[simp] theorem ignoreWrite_reads (s : State) : (ignoreWrite s).reads = s.reads := rfl
@[simp] theorem ignoreWrite_draws (s : State) : (ignoreWrite s).draws = s.draws := rfl

/-! ## startSearch -/

@[simp] theorem startSearch_cmd (p : Phase) (s : State) : (startSearch p s).cmd = s.cmd := rfl
@[simp] theorem startSearch_busy (p : Phase) (s : State) : (startSearch p s).busy = s.busy := rfl
@[simp] theorem startSearch_done (p : Phase) (s : State) : (startSearch p s).done = s.done := rfl
@[simp] theorem startSearch_ok (p : Phase) (s : State) : (startSearch p s).ok = s.ok := rfl
@[simp] theorem startSearch_wbusy (p : Phase) (s : State) : (startSearch p s).wbusy = s.wbusy := rfl
@[simp] theorem startSearch_sev (p : Phase) (s : State) : (startSearch p s).sev = s.sev := rfl
@[simp] theorem startSearch_kind (p : Phase) (s : State) : (startSearch p s).kind = s.kind := rfl
@[simp] theorem startSearch_res (p : Phase) (s : State) : (startSearch p s).res = s.res := rfl
@[simp] theorem startSearch_opa (p : Phase) (s : State) : (startSearch p s).opa = s.opa := rfl
@[simp] theorem startSearch_opb (p : Phase) (s : State) : (startSearch p s).opb = s.opb := rfl
@[simp] theorem startSearch_opc (p : Phase) (s : State) : (startSearch p s).opc = s.opc := rfl
@[simp] theorem startSearch_opd (p : Phase) (s : State) : (startSearch p s).opd = s.opd := rfl
@[simp] theorem startSearch_cfgTrack (p : Phase) (s : State) : (startSearch p s).cfgTrack = s.cfgTrack := rfl
@[simp] theorem startSearch_cfgApro0 (p : Phase) (s : State) : (startSearch p s).cfgApro0 = s.cfgApro0 := rfl
@[simp] theorem startSearch_cfgApro1 (p : Phase) (s : State) : (startSearch p s).cfgApro1 = s.cfgApro1 := rfl
@[simp] theorem startSearch_cfgApro2 (p : Phase) (s : State) : (startSearch p s).cfgApro2 = s.cfgApro2 := rfl
@[simp] theorem startSearch_cfgAepi0 (p : Phase) (s : State) : (startSearch p s).cfgAepi0 = s.cfgAepi0 := rfl
@[simp] theorem startSearch_cfgAepi1 (p : Phase) (s : State) : (startSearch p s).cfgAepi1 = s.cfgAepi1 := rfl
@[simp] theorem startSearch_cfgAepi2 (p : Phase) (s : State) : (startSearch p s).cfgAepi2 = s.cfgAepi2 := rfl
@[simp] theorem startSearch_cfgDpro0 (p : Phase) (s : State) : (startSearch p s).cfgDpro0 = s.cfgDpro0 := rfl
@[simp] theorem startSearch_cfgDpro1 (p : Phase) (s : State) : (startSearch p s).cfgDpro1 = s.cfgDpro1 := rfl
@[simp] theorem startSearch_cfgDpro2 (p : Phase) (s : State) : (startSearch p s).cfgDpro2 = s.cfgDpro2 := rfl
@[simp] theorem startSearch_cfgDepi0 (p : Phase) (s : State) : (startSearch p s).cfgDepi0 = s.cfgDepi0 := rfl
@[simp] theorem startSearch_cfgDepi1 (p : Phase) (s : State) : (startSearch p s).cfgDepi1 = s.cfgDepi1 := rfl
@[simp] theorem startSearch_cfgDepi2 (p : Phase) (s : State) : (startSearch p s).cfgDepi2 = s.cfgDepi2 := rfl
@[simp] theorem startSearch_afVol (p : Phase) (s : State) : (startSearch p s).afVol = s.afVol := rfl
@[simp] theorem startSearch_afTrk (p : Phase) (s : State) : (startSearch p s).afTrk = s.afTrk := rfl
@[simp] theorem startSearch_afSec (p : Phase) (s : State) : (startSearch p s).afSec = s.afSec := rfl
@[simp] theorem startSearch_afChk (p : Phase) (s : State) : (startSearch p s).afChk = s.afChk := rfl
@[simp] theorem startSearch_d62Chk (p : Phase) (s : State) : (startSearch p s).d62Chk = s.d62Chk := rfl
@[simp] theorem startSearch_invByte (p : Phase) (s : State) : (startSearch p s).invByte = s.invByte := rfl
@[simp] theorem startSearch_invIdx (p : Phase) (s : State) : (startSearch p s).invIdx = s.invIdx := rfl
@[simp] theorem startSearch_inv (p : Phase) (s : State) : (startSearch p s).inv = s.inv := rfl
@[simp] theorem startSearch_phase (p : Phase) (s : State) : (startSearch p s).phase = p := rfl
@[simp] theorem startSearch_payload (p : Phase) (s : State) : (startSearch p s).payload = s.payload := rfl
@[simp] theorem startSearch_twos (p : Phase) (s : State) : (startSearch p s).twos = s.twos := rfl
@[simp] theorem startSearch_win (p : Phase) (s : State) : (startSearch p s).win = [] := rfl
@[simp] theorem startSearch_wcnt (p : Phase) (s : State) : (startSearch p s).wcnt = 0 := rfl
@[simp] theorem startSearch_hi (p : Phase) (s : State) : (startSearch p s).hi = s.hi := rfl
@[simp] theorem startSearch_hiHeld (p : Phase) (s : State) : (startSearch p s).hiHeld = s.hiHeld := rfl
@[simp] theorem startSearch_d62Idx (p : Phase) (s : State) : (startSearch p s).d62Idx = s.d62Idx := rfl
@[simp] theorem startSearch_window (p : Phase) (s : State) : (startSearch p s).window = s.window := rfl
@[simp] theorem startSearch_trailingInvalid (p : Phase) (s : State) : (startSearch p s).trailingInvalid = s.trailingInvalid := rfl
@[simp] theorem startSearch_stream (p : Phase) (s : State) : (startSearch p s).stream = s.stream := rfl
@[simp] theorem startSearch_agenda (p : Phase) (s : State) : (startSearch p s).agenda = s.agenda := rfl
@[simp] theorem startSearch_reads (p : Phase) (s : State) : (startSearch p s).reads = s.reads := rfl
@[simp] theorem startSearch_draws (p : Phase) (s : State) : (startSearch p s).draws = s.draws := rfl

/-! ## startPair -/

@[simp] theorem startPair_cmd (p : Phase) (s : State) : (startPair p s).cmd = s.cmd := rfl
@[simp] theorem startPair_busy (p : Phase) (s : State) : (startPair p s).busy = s.busy := rfl
@[simp] theorem startPair_done (p : Phase) (s : State) : (startPair p s).done = s.done := rfl
@[simp] theorem startPair_ok (p : Phase) (s : State) : (startPair p s).ok = s.ok := rfl
@[simp] theorem startPair_wbusy (p : Phase) (s : State) : (startPair p s).wbusy = s.wbusy := rfl
@[simp] theorem startPair_sev (p : Phase) (s : State) : (startPair p s).sev = s.sev := rfl
@[simp] theorem startPair_kind (p : Phase) (s : State) : (startPair p s).kind = s.kind := rfl
@[simp] theorem startPair_res (p : Phase) (s : State) : (startPair p s).res = s.res := rfl
@[simp] theorem startPair_opa (p : Phase) (s : State) : (startPair p s).opa = s.opa := rfl
@[simp] theorem startPair_opb (p : Phase) (s : State) : (startPair p s).opb = s.opb := rfl
@[simp] theorem startPair_opc (p : Phase) (s : State) : (startPair p s).opc = s.opc := rfl
@[simp] theorem startPair_opd (p : Phase) (s : State) : (startPair p s).opd = s.opd := rfl
@[simp] theorem startPair_cfgTrack (p : Phase) (s : State) : (startPair p s).cfgTrack = s.cfgTrack := rfl
@[simp] theorem startPair_cfgApro0 (p : Phase) (s : State) : (startPair p s).cfgApro0 = s.cfgApro0 := rfl
@[simp] theorem startPair_cfgApro1 (p : Phase) (s : State) : (startPair p s).cfgApro1 = s.cfgApro1 := rfl
@[simp] theorem startPair_cfgApro2 (p : Phase) (s : State) : (startPair p s).cfgApro2 = s.cfgApro2 := rfl
@[simp] theorem startPair_cfgAepi0 (p : Phase) (s : State) : (startPair p s).cfgAepi0 = s.cfgAepi0 := rfl
@[simp] theorem startPair_cfgAepi1 (p : Phase) (s : State) : (startPair p s).cfgAepi1 = s.cfgAepi1 := rfl
@[simp] theorem startPair_cfgAepi2 (p : Phase) (s : State) : (startPair p s).cfgAepi2 = s.cfgAepi2 := rfl
@[simp] theorem startPair_cfgDpro0 (p : Phase) (s : State) : (startPair p s).cfgDpro0 = s.cfgDpro0 := rfl
@[simp] theorem startPair_cfgDpro1 (p : Phase) (s : State) : (startPair p s).cfgDpro1 = s.cfgDpro1 := rfl
@[simp] theorem startPair_cfgDpro2 (p : Phase) (s : State) : (startPair p s).cfgDpro2 = s.cfgDpro2 := rfl
@[simp] theorem startPair_cfgDepi0 (p : Phase) (s : State) : (startPair p s).cfgDepi0 = s.cfgDepi0 := rfl
@[simp] theorem startPair_cfgDepi1 (p : Phase) (s : State) : (startPair p s).cfgDepi1 = s.cfgDepi1 := rfl
@[simp] theorem startPair_cfgDepi2 (p : Phase) (s : State) : (startPair p s).cfgDepi2 = s.cfgDepi2 := rfl
@[simp] theorem startPair_afVol (p : Phase) (s : State) : (startPair p s).afVol = s.afVol := rfl
@[simp] theorem startPair_afTrk (p : Phase) (s : State) : (startPair p s).afTrk = s.afTrk := rfl
@[simp] theorem startPair_afSec (p : Phase) (s : State) : (startPair p s).afSec = s.afSec := rfl
@[simp] theorem startPair_afChk (p : Phase) (s : State) : (startPair p s).afChk = s.afChk := rfl
@[simp] theorem startPair_d62Chk (p : Phase) (s : State) : (startPair p s).d62Chk = s.d62Chk := rfl
@[simp] theorem startPair_invByte (p : Phase) (s : State) : (startPair p s).invByte = s.invByte := rfl
@[simp] theorem startPair_invIdx (p : Phase) (s : State) : (startPair p s).invIdx = s.invIdx := rfl
@[simp] theorem startPair_inv (p : Phase) (s : State) : (startPair p s).inv = s.inv := rfl
@[simp] theorem startPair_phase (p : Phase) (s : State) : (startPair p s).phase = p := rfl
@[simp] theorem startPair_payload (p : Phase) (s : State) : (startPair p s).payload = s.payload := rfl
@[simp] theorem startPair_twos (p : Phase) (s : State) : (startPair p s).twos = s.twos := rfl
@[simp] theorem startPair_win (p : Phase) (s : State) : (startPair p s).win = s.win := rfl
@[simp] theorem startPair_wcnt (p : Phase) (s : State) : (startPair p s).wcnt = s.wcnt := rfl
@[simp] theorem startPair_hi (p : Phase) (s : State) : (startPair p s).hi = s.hi := rfl
@[simp] theorem startPair_hiHeld (p : Phase) (s : State) : (startPair p s).hiHeld = false := rfl
@[simp] theorem startPair_d62Idx (p : Phase) (s : State) : (startPair p s).d62Idx = s.d62Idx := rfl
@[simp] theorem startPair_window (p : Phase) (s : State) : (startPair p s).window = s.window := rfl
@[simp] theorem startPair_trailingInvalid (p : Phase) (s : State) : (startPair p s).trailingInvalid = s.trailingInvalid := rfl
@[simp] theorem startPair_stream (p : Phase) (s : State) : (startPair p s).stream = s.stream := rfl
@[simp] theorem startPair_agenda (p : Phase) (s : State) : (startPair p s).agenda = s.agenda := rfl
@[simp] theorem startPair_reads (p : Phase) (s : State) : (startPair p s).reads = s.reads := rfl
@[simp] theorem startPair_draws (p : Phase) (s : State) : (startPair p s).draws = s.draws := rfl

/-! ## startDecode -/

@[simp] theorem startDecode_cmd (s : State) : (startDecode s).cmd = s.cmd := rfl
@[simp] theorem startDecode_busy (s : State) : (startDecode s).busy = s.busy := rfl
@[simp] theorem startDecode_done (s : State) : (startDecode s).done = s.done := rfl
@[simp] theorem startDecode_ok (s : State) : (startDecode s).ok = s.ok := rfl
@[simp] theorem startDecode_wbusy (s : State) : (startDecode s).wbusy = s.wbusy := rfl
@[simp] theorem startDecode_sev (s : State) : (startDecode s).sev = s.sev := rfl
@[simp] theorem startDecode_kind (s : State) : (startDecode s).kind = s.kind := rfl
@[simp] theorem startDecode_res (s : State) : (startDecode s).res = s.res := rfl
@[simp] theorem startDecode_opa (s : State) : (startDecode s).opa = s.opa := rfl
@[simp] theorem startDecode_opb (s : State) : (startDecode s).opb = s.opb := rfl
@[simp] theorem startDecode_opc (s : State) : (startDecode s).opc = s.opc := rfl
@[simp] theorem startDecode_opd (s : State) : (startDecode s).opd = s.opd := rfl
@[simp] theorem startDecode_cfgTrack (s : State) : (startDecode s).cfgTrack = s.cfgTrack := rfl
@[simp] theorem startDecode_cfgApro0 (s : State) : (startDecode s).cfgApro0 = s.cfgApro0 := rfl
@[simp] theorem startDecode_cfgApro1 (s : State) : (startDecode s).cfgApro1 = s.cfgApro1 := rfl
@[simp] theorem startDecode_cfgApro2 (s : State) : (startDecode s).cfgApro2 = s.cfgApro2 := rfl
@[simp] theorem startDecode_cfgAepi0 (s : State) : (startDecode s).cfgAepi0 = s.cfgAepi0 := rfl
@[simp] theorem startDecode_cfgAepi1 (s : State) : (startDecode s).cfgAepi1 = s.cfgAepi1 := rfl
@[simp] theorem startDecode_cfgAepi2 (s : State) : (startDecode s).cfgAepi2 = s.cfgAepi2 := rfl
@[simp] theorem startDecode_cfgDpro0 (s : State) : (startDecode s).cfgDpro0 = s.cfgDpro0 := rfl
@[simp] theorem startDecode_cfgDpro1 (s : State) : (startDecode s).cfgDpro1 = s.cfgDpro1 := rfl
@[simp] theorem startDecode_cfgDpro2 (s : State) : (startDecode s).cfgDpro2 = s.cfgDpro2 := rfl
@[simp] theorem startDecode_cfgDepi0 (s : State) : (startDecode s).cfgDepi0 = s.cfgDepi0 := rfl
@[simp] theorem startDecode_cfgDepi1 (s : State) : (startDecode s).cfgDepi1 = s.cfgDepi1 := rfl
@[simp] theorem startDecode_cfgDepi2 (s : State) : (startDecode s).cfgDepi2 = s.cfgDepi2 := rfl
@[simp] theorem startDecode_afVol (s : State) : (startDecode s).afVol = s.afVol := rfl
@[simp] theorem startDecode_afTrk (s : State) : (startDecode s).afTrk = s.afTrk := rfl
@[simp] theorem startDecode_afSec (s : State) : (startDecode s).afSec = s.afSec := rfl
@[simp] theorem startDecode_afChk (s : State) : (startDecode s).afChk = s.afChk := rfl
@[simp] theorem startDecode_d62Chk (s : State) : (startDecode s).d62Chk = 0 := rfl
@[simp] theorem startDecode_invByte (s : State) : (startDecode s).invByte = 0 := rfl
@[simp] theorem startDecode_invIdx (s : State) : (startDecode s).invIdx = 0 := rfl
@[simp] theorem startDecode_inv (s : State) : (startDecode s).inv = false := rfl
@[simp] theorem startDecode_phase (s : State) : (startDecode s).phase = s.phase := rfl
@[simp] theorem startDecode_payload (s : State) : (startDecode s).payload = s.payload := rfl
@[simp] theorem startDecode_twos (s : State) : (startDecode s).twos = s.twos := rfl
@[simp] theorem startDecode_win (s : State) : (startDecode s).win = s.win := rfl
@[simp] theorem startDecode_wcnt (s : State) : (startDecode s).wcnt = s.wcnt := rfl
@[simp] theorem startDecode_hi (s : State) : (startDecode s).hi = s.hi := rfl
@[simp] theorem startDecode_hiHeld (s : State) : (startDecode s).hiHeld = s.hiHeld := rfl
@[simp] theorem startDecode_d62Idx (s : State) : (startDecode s).d62Idx = 0 := rfl
@[simp] theorem startDecode_window (s : State) : (startDecode s).window = s.window := rfl
@[simp] theorem startDecode_trailingInvalid (s : State) : (startDecode s).trailingInvalid = s.trailingInvalid := rfl
@[simp] theorem startDecode_stream (s : State) : (startDecode s).stream = s.stream := rfl
@[simp] theorem startDecode_agenda (s : State) : (startDecode s).agenda = s.agenda := rfl
@[simp] theorem startDecode_reads (s : State) : (startDecode s).reads = s.reads := rfl
@[simp] theorem startDecode_draws (s : State) : (startDecode s).draws = s.draws := rfl

/-! ## shiftWindow -/

@[simp] theorem shiftWindow_cmd (k : Nat) (b : Byte) (s : State) : (shiftWindow k b s).cmd = s.cmd := rfl
@[simp] theorem shiftWindow_busy (k : Nat) (b : Byte) (s : State) : (shiftWindow k b s).busy = s.busy := rfl
@[simp] theorem shiftWindow_done (k : Nat) (b : Byte) (s : State) : (shiftWindow k b s).done = s.done := rfl
@[simp] theorem shiftWindow_ok (k : Nat) (b : Byte) (s : State) : (shiftWindow k b s).ok = s.ok := rfl
@[simp] theorem shiftWindow_wbusy (k : Nat) (b : Byte) (s : State) : (shiftWindow k b s).wbusy = s.wbusy := rfl
@[simp] theorem shiftWindow_sev (k : Nat) (b : Byte) (s : State) : (shiftWindow k b s).sev = s.sev := rfl
@[simp] theorem shiftWindow_kind (k : Nat) (b : Byte) (s : State) : (shiftWindow k b s).kind = s.kind := rfl
@[simp] theorem shiftWindow_res (k : Nat) (b : Byte) (s : State) : (shiftWindow k b s).res = s.res := rfl
@[simp] theorem shiftWindow_opa (k : Nat) (b : Byte) (s : State) : (shiftWindow k b s).opa = s.opa := rfl
@[simp] theorem shiftWindow_opb (k : Nat) (b : Byte) (s : State) : (shiftWindow k b s).opb = s.opb := rfl
@[simp] theorem shiftWindow_opc (k : Nat) (b : Byte) (s : State) : (shiftWindow k b s).opc = s.opc := rfl
@[simp] theorem shiftWindow_opd (k : Nat) (b : Byte) (s : State) : (shiftWindow k b s).opd = s.opd := rfl
@[simp] theorem shiftWindow_cfgTrack (k : Nat) (b : Byte) (s : State) : (shiftWindow k b s).cfgTrack = s.cfgTrack := rfl
@[simp] theorem shiftWindow_cfgApro0 (k : Nat) (b : Byte) (s : State) : (shiftWindow k b s).cfgApro0 = s.cfgApro0 := rfl
@[simp] theorem shiftWindow_cfgApro1 (k : Nat) (b : Byte) (s : State) : (shiftWindow k b s).cfgApro1 = s.cfgApro1 := rfl
@[simp] theorem shiftWindow_cfgApro2 (k : Nat) (b : Byte) (s : State) : (shiftWindow k b s).cfgApro2 = s.cfgApro2 := rfl
@[simp] theorem shiftWindow_cfgAepi0 (k : Nat) (b : Byte) (s : State) : (shiftWindow k b s).cfgAepi0 = s.cfgAepi0 := rfl
@[simp] theorem shiftWindow_cfgAepi1 (k : Nat) (b : Byte) (s : State) : (shiftWindow k b s).cfgAepi1 = s.cfgAepi1 := rfl
@[simp] theorem shiftWindow_cfgAepi2 (k : Nat) (b : Byte) (s : State) : (shiftWindow k b s).cfgAepi2 = s.cfgAepi2 := rfl
@[simp] theorem shiftWindow_cfgDpro0 (k : Nat) (b : Byte) (s : State) : (shiftWindow k b s).cfgDpro0 = s.cfgDpro0 := rfl
@[simp] theorem shiftWindow_cfgDpro1 (k : Nat) (b : Byte) (s : State) : (shiftWindow k b s).cfgDpro1 = s.cfgDpro1 := rfl
@[simp] theorem shiftWindow_cfgDpro2 (k : Nat) (b : Byte) (s : State) : (shiftWindow k b s).cfgDpro2 = s.cfgDpro2 := rfl
@[simp] theorem shiftWindow_cfgDepi0 (k : Nat) (b : Byte) (s : State) : (shiftWindow k b s).cfgDepi0 = s.cfgDepi0 := rfl
@[simp] theorem shiftWindow_cfgDepi1 (k : Nat) (b : Byte) (s : State) : (shiftWindow k b s).cfgDepi1 = s.cfgDepi1 := rfl
@[simp] theorem shiftWindow_cfgDepi2 (k : Nat) (b : Byte) (s : State) : (shiftWindow k b s).cfgDepi2 = s.cfgDepi2 := rfl
@[simp] theorem shiftWindow_afVol (k : Nat) (b : Byte) (s : State) : (shiftWindow k b s).afVol = s.afVol := rfl
@[simp] theorem shiftWindow_afTrk (k : Nat) (b : Byte) (s : State) : (shiftWindow k b s).afTrk = s.afTrk := rfl
@[simp] theorem shiftWindow_afSec (k : Nat) (b : Byte) (s : State) : (shiftWindow k b s).afSec = s.afSec := rfl
@[simp] theorem shiftWindow_afChk (k : Nat) (b : Byte) (s : State) : (shiftWindow k b s).afChk = s.afChk := rfl
@[simp] theorem shiftWindow_d62Chk (k : Nat) (b : Byte) (s : State) : (shiftWindow k b s).d62Chk = s.d62Chk := rfl
@[simp] theorem shiftWindow_invByte (k : Nat) (b : Byte) (s : State) : (shiftWindow k b s).invByte = s.invByte := rfl
@[simp] theorem shiftWindow_invIdx (k : Nat) (b : Byte) (s : State) : (shiftWindow k b s).invIdx = s.invIdx := rfl
@[simp] theorem shiftWindow_inv (k : Nat) (b : Byte) (s : State) : (shiftWindow k b s).inv = s.inv := rfl
@[simp] theorem shiftWindow_phase (k : Nat) (b : Byte) (s : State) : (shiftWindow k b s).phase = s.phase := rfl
@[simp] theorem shiftWindow_payload (k : Nat) (b : Byte) (s : State) : (shiftWindow k b s).payload = s.payload := rfl
@[simp] theorem shiftWindow_twos (k : Nat) (b : Byte) (s : State) : (shiftWindow k b s).twos = s.twos := rfl
@[simp] theorem shiftWindow_win (k : Nat) (b : Byte) (s : State) : (shiftWindow k b s).win = lastK k (s.win ++ [b]) := rfl
@[simp] theorem shiftWindow_wcnt (k : Nat) (b : Byte) (s : State) : (shiftWindow k b s).wcnt = s.wcnt := rfl
@[simp] theorem shiftWindow_hi (k : Nat) (b : Byte) (s : State) : (shiftWindow k b s).hi = s.hi := rfl
@[simp] theorem shiftWindow_hiHeld (k : Nat) (b : Byte) (s : State) : (shiftWindow k b s).hiHeld = s.hiHeld := rfl
@[simp] theorem shiftWindow_d62Idx (k : Nat) (b : Byte) (s : State) : (shiftWindow k b s).d62Idx = s.d62Idx := rfl
@[simp] theorem shiftWindow_window (k : Nat) (b : Byte) (s : State) : (shiftWindow k b s).window = s.window := rfl
@[simp] theorem shiftWindow_trailingInvalid (k : Nat) (b : Byte) (s : State) : (shiftWindow k b s).trailingInvalid = s.trailingInvalid := rfl
@[simp] theorem shiftWindow_stream (k : Nat) (b : Byte) (s : State) : (shiftWindow k b s).stream = s.stream := rfl
@[simp] theorem shiftWindow_agenda (k : Nat) (b : Byte) (s : State) : (shiftWindow k b s).agenda = s.agenda := rfl
@[simp] theorem shiftWindow_reads (k : Nat) (b : Byte) (s : State) : (shiftWindow k b s).reads = s.reads := rfl
@[simp] theorem shiftWindow_draws (k : Nat) (b : Byte) (s : State) : (shiftWindow k b s).draws = s.draws := rfl

/-! ## writeRegister: the register of the index, and no other field -/

@[simp] theorem writeRegister_cmd (i : Nat) (v : Byte) (s : State) : (writeRegister i v s).cmd = s.cmd := by
  unfold writeRegister
  split <;> rfl

@[simp] theorem writeRegister_busy (i : Nat) (v : Byte) (s : State) : (writeRegister i v s).busy = s.busy := by
  unfold writeRegister
  split <;> rfl

@[simp] theorem writeRegister_done (i : Nat) (v : Byte) (s : State) : (writeRegister i v s).done = s.done := by
  unfold writeRegister
  split <;> rfl

@[simp] theorem writeRegister_ok (i : Nat) (v : Byte) (s : State) : (writeRegister i v s).ok = s.ok := by
  unfold writeRegister
  split <;> rfl

@[simp] theorem writeRegister_wbusy (i : Nat) (v : Byte) (s : State) : (writeRegister i v s).wbusy = s.wbusy := by
  unfold writeRegister
  split <;> rfl

@[simp] theorem writeRegister_sev (i : Nat) (v : Byte) (s : State) : (writeRegister i v s).sev = s.sev := by
  unfold writeRegister
  split <;> rfl

@[simp] theorem writeRegister_kind (i : Nat) (v : Byte) (s : State) : (writeRegister i v s).kind = s.kind := by
  unfold writeRegister
  split <;> rfl

@[simp] theorem writeRegister_res (i : Nat) (v : Byte) (s : State) : (writeRegister i v s).res = s.res := by
  unfold writeRegister
  split <;> rfl

theorem writeRegister_opa (i : Nat) (v : Byte) (s : State) :
    (writeRegister i v s).opa = if i = 0x004 then v else s.opa := by
  unfold writeRegister
  split <;> simp_all

theorem writeRegister_opb (i : Nat) (v : Byte) (s : State) :
    (writeRegister i v s).opb = if i = 0x005 then v else s.opb := by
  unfold writeRegister
  split <;> simp_all

theorem writeRegister_opc (i : Nat) (v : Byte) (s : State) :
    (writeRegister i v s).opc = if i = 0x006 then v else s.opc := by
  unfold writeRegister
  split <;> simp_all

theorem writeRegister_opd (i : Nat) (v : Byte) (s : State) :
    (writeRegister i v s).opd = if i = 0x007 then v else s.opd := by
  unfold writeRegister
  split <;> simp_all

theorem writeRegister_cfgTrack (i : Nat) (v : Byte) (s : State) :
    (writeRegister i v s).cfgTrack = if i = 0x008 then v else s.cfgTrack := by
  unfold writeRegister
  split <;> simp_all

theorem writeRegister_cfgApro0 (i : Nat) (v : Byte) (s : State) :
    (writeRegister i v s).cfgApro0 = if i = 0x009 then v else s.cfgApro0 := by
  unfold writeRegister
  split <;> simp_all

theorem writeRegister_cfgApro1 (i : Nat) (v : Byte) (s : State) :
    (writeRegister i v s).cfgApro1 = if i = 0x00A then v else s.cfgApro1 := by
  unfold writeRegister
  split <;> simp_all

theorem writeRegister_cfgApro2 (i : Nat) (v : Byte) (s : State) :
    (writeRegister i v s).cfgApro2 = if i = 0x00B then v else s.cfgApro2 := by
  unfold writeRegister
  split <;> simp_all

theorem writeRegister_cfgAepi0 (i : Nat) (v : Byte) (s : State) :
    (writeRegister i v s).cfgAepi0 = if i = 0x00C then v else s.cfgAepi0 := by
  unfold writeRegister
  split <;> simp_all

theorem writeRegister_cfgAepi1 (i : Nat) (v : Byte) (s : State) :
    (writeRegister i v s).cfgAepi1 = if i = 0x00D then v else s.cfgAepi1 := by
  unfold writeRegister
  split <;> simp_all

theorem writeRegister_cfgAepi2 (i : Nat) (v : Byte) (s : State) :
    (writeRegister i v s).cfgAepi2 = if i = 0x00E then v else s.cfgAepi2 := by
  unfold writeRegister
  split <;> simp_all

theorem writeRegister_cfgDpro0 (i : Nat) (v : Byte) (s : State) :
    (writeRegister i v s).cfgDpro0 = if i = 0x00F then v else s.cfgDpro0 := by
  unfold writeRegister
  split <;> simp_all

theorem writeRegister_cfgDpro1 (i : Nat) (v : Byte) (s : State) :
    (writeRegister i v s).cfgDpro1 = if i = 0x010 then v else s.cfgDpro1 := by
  unfold writeRegister
  split <;> simp_all

theorem writeRegister_cfgDpro2 (i : Nat) (v : Byte) (s : State) :
    (writeRegister i v s).cfgDpro2 = if i = 0x011 then v else s.cfgDpro2 := by
  unfold writeRegister
  split <;> simp_all

theorem writeRegister_cfgDepi0 (i : Nat) (v : Byte) (s : State) :
    (writeRegister i v s).cfgDepi0 = if i = 0x012 then v else s.cfgDepi0 := by
  unfold writeRegister
  split <;> simp_all

theorem writeRegister_cfgDepi1 (i : Nat) (v : Byte) (s : State) :
    (writeRegister i v s).cfgDepi1 = if i = 0x013 then v else s.cfgDepi1 := by
  unfold writeRegister
  split <;> simp_all

theorem writeRegister_cfgDepi2 (i : Nat) (v : Byte) (s : State) :
    (writeRegister i v s).cfgDepi2 = if i = 0x014 then v else s.cfgDepi2 := by
  unfold writeRegister
  split <;> simp_all

@[simp] theorem writeRegister_afVol (i : Nat) (v : Byte) (s : State) : (writeRegister i v s).afVol = s.afVol := by
  unfold writeRegister
  split <;> rfl

@[simp] theorem writeRegister_afTrk (i : Nat) (v : Byte) (s : State) : (writeRegister i v s).afTrk = s.afTrk := by
  unfold writeRegister
  split <;> rfl

@[simp] theorem writeRegister_afSec (i : Nat) (v : Byte) (s : State) : (writeRegister i v s).afSec = s.afSec := by
  unfold writeRegister
  split <;> rfl

@[simp] theorem writeRegister_afChk (i : Nat) (v : Byte) (s : State) : (writeRegister i v s).afChk = s.afChk := by
  unfold writeRegister
  split <;> rfl

@[simp] theorem writeRegister_d62Chk (i : Nat) (v : Byte) (s : State) : (writeRegister i v s).d62Chk = s.d62Chk := by
  unfold writeRegister
  split <;> rfl

@[simp] theorem writeRegister_invByte (i : Nat) (v : Byte) (s : State) : (writeRegister i v s).invByte = s.invByte := by
  unfold writeRegister
  split <;> rfl

@[simp] theorem writeRegister_invIdx (i : Nat) (v : Byte) (s : State) : (writeRegister i v s).invIdx = s.invIdx := by
  unfold writeRegister
  split <;> rfl

@[simp] theorem writeRegister_inv (i : Nat) (v : Byte) (s : State) : (writeRegister i v s).inv = s.inv := by
  unfold writeRegister
  split <;> rfl

@[simp] theorem writeRegister_phase (i : Nat) (v : Byte) (s : State) : (writeRegister i v s).phase = s.phase := by
  unfold writeRegister
  split <;> rfl

@[simp] theorem writeRegister_payload (i : Nat) (v : Byte) (s : State) : (writeRegister i v s).payload = s.payload := by
  unfold writeRegister
  split <;> rfl

@[simp] theorem writeRegister_twos (i : Nat) (v : Byte) (s : State) : (writeRegister i v s).twos = s.twos := by
  unfold writeRegister
  split <;> rfl

@[simp] theorem writeRegister_win (i : Nat) (v : Byte) (s : State) : (writeRegister i v s).win = s.win := by
  unfold writeRegister
  split <;> rfl

@[simp] theorem writeRegister_wcnt (i : Nat) (v : Byte) (s : State) : (writeRegister i v s).wcnt = s.wcnt := by
  unfold writeRegister
  split <;> rfl

@[simp] theorem writeRegister_hi (i : Nat) (v : Byte) (s : State) : (writeRegister i v s).hi = s.hi := by
  unfold writeRegister
  split <;> rfl

@[simp] theorem writeRegister_hiHeld (i : Nat) (v : Byte) (s : State) : (writeRegister i v s).hiHeld = s.hiHeld := by
  unfold writeRegister
  split <;> rfl

@[simp] theorem writeRegister_d62Idx (i : Nat) (v : Byte) (s : State) : (writeRegister i v s).d62Idx = s.d62Idx := by
  unfold writeRegister
  split <;> rfl

@[simp] theorem writeRegister_window (i : Nat) (v : Byte) (s : State) : (writeRegister i v s).window = s.window := by
  unfold writeRegister
  split <;> rfl

@[simp] theorem writeRegister_trailingInvalid (i : Nat) (v : Byte) (s : State) : (writeRegister i v s).trailingInvalid = s.trailingInvalid := by
  unfold writeRegister
  split <;> rfl

@[simp] theorem writeRegister_stream (i : Nat) (v : Byte) (s : State) : (writeRegister i v s).stream = s.stream := by
  unfold writeRegister
  split <;> rfl

@[simp] theorem writeRegister_agenda (i : Nat) (v : Byte) (s : State) : (writeRegister i v s).agenda = s.agenda := by
  unfold writeRegister
  split <;> rfl

@[simp] theorem writeRegister_reads (i : Nat) (v : Byte) (s : State) : (writeRegister i v s).reads = s.reads := by
  unfold writeRegister
  split <;> rfl

@[simp] theorem writeRegister_draws (i : Nat) (v : Byte) (s : State) : (writeRegister i v s).draws = s.draws := by
  unfold writeRegister
  split <;> rfl

end Sys2Proof.Machine
end

