-- ==== Sys2Proof/Laws/Exec.lean ====
section
/-! SUPPORT. Said once: what exec answers for every command, and every effect one step can have. -/

namespace Sys2Proof.Machine

/-- The rest of a command's acceptance, after the writes of `accept()`: all of a combinational command. -/
def startOf : Instr → State → State
  | .nop => nopBody
  | .rdsec => rdsecStart
  | .d44 => d44Body
  | .l62 => l62Body
  | .d62 => fun s => startDecode (startStreaming .xD62 s)
  | .seekApro => seekStart
  | .seekAepi => seekStart
  | .seekDpro => seekStart
  | .seekDepi => seekStart
  | .seekSync => seekStart
  | .bsrchApro => bsrchStart
  | .bsrchAepi => bsrchStart
  | .bsrchDpro => bsrchStart
  | .bsrchDepi => bsrchStart
  | .bsrchSync => bsrchStart
  | .skip => startStreaming .xSkip
  | .cka => ckaBody
  | .ckd => ckdBody
  | .ckt => cktBody

/-- A command's nibble step; a combinational command has none. -/
def nibbleStepOf : Instr → State → State
  | .nop => id
  | .rdsec => rdsecStep
  | .d44 => id
  | .l62 => id
  | .d62 => d62Step
  | .seekApro => seekCommandStep .apro
  | .seekAepi => seekCommandStep .aepi
  | .seekDpro => seekCommandStep .dpro
  | .seekDepi => seekCommandStep .depi
  | .seekSync => seekCommandStep .sync
  | .bsrchApro => bsrchCommandStep .apro
  | .bsrchAepi => bsrchCommandStep .aepi
  | .bsrchDpro => bsrchCommandStep .dpro
  | .bsrchDepi => bsrchCommandStep .depi
  | .bsrchSync => bsrchCommandStep .sync
  | .skip => skipStep
  | .cka => id
  | .ckd => id
  | .ckt => id

/-- What exec answers: the nibble step of the running command, an ignored issue, or the acceptance. -/
theorem exec_eq (i : Instr) (s : State) :
    exec i s = if runningIn i s then .next (nibbleStepOf i s)
      else if s.busy then .next (ignoreWrite s) else .next (startOf i (accept (encodeByte i) s)) := by
  cases i <;> first | rfl | simp [exec, execNop, execD44, execL62, execCka, execCkd, execCkt, issue, runningIn, phasesOf, startOf]

theorem exec_running {i : Instr} {s : State} (h : runningIn i s = true) : exec i s = .next (nibbleStepOf i s) := by
  rw [exec_eq, if_pos h]

theorem runningIn_iff (i : Instr) (s : State) :
    runningIn i s = true ↔ s.busy = true ∧ s.cmd = encodeByte i ∧ s.phase ∈ phasesOf i := by
  simp [runningIn, and_assoc]

theorem runningIn_idle (i : Instr) {s : State} (h : s.busy = false) : runningIn i s = false := by
  simp [runningIn, h]

theorem exec_idle (i : Instr) {s : State} (h : s.busy = false) :
    exec i s = .next (startOf i (accept (encodeByte i) s)) := by
  rw [exec_eq, runningIn_idle i h]
  simp [h]

theorem exec_ignored {i : Instr} {s : State} (h : s.busy = true) (hr : runningIn i s = false) :
    exec i s = .next (ignoreWrite s) := by
  rw [exec_eq, hr]
  simp [h]

theorem encodeByte_of_decodeByte {v : Byte} {i : Instr} (h : decodeByte v = .ok i) : encodeByte i = v := by
  have key : ∀ v : Byte, (match decodeByte v with | .ok i => encodeByte i == v | .error _ => true) = true := by decide +revert
  have := key v
  rw [h] at this
  simpa using this

theorem decodeByte_encodeByte (i : Instr) : decodeByte (encodeByte i) = .ok i := by
  cases i <;> rfl

theorem runningCommand_eq_some {s : State} {i : Instr} : runningCommand s = some i ↔ runningIn i s = true := by
  unfold runningCommand
  constructor
  · intro h
    split at h
    · split at h
      · cases h
        assumption
      · cases h
    · cases h
  · intro h
    have hc : s.cmd = encodeByte i := by
      simp only [runningIn, Bool.and_eq_true, beq_iff_eq] at h
      exact h.1.2
    rw [hc, decodeByte_encodeByte]
    simp [h]

/-! ## The step of RDSEC in each phase (R181) -/

theorem rdsecStep_aPro {s : State} (h : s.phase = .aPro) : rdsecStep s = rdsecAPro s := by
  unfold rdsecStep
  rw [h]

theorem rdsecStep_aVol {s : State} (h : s.phase = .aVol) : rdsecStep s = rdsecAVol s := by
  unfold rdsecStep
  rw [h]

theorem rdsecStep_aTrk {s : State} (h : s.phase = .aTrk) : rdsecStep s = rdsecATrk s := by
  unfold rdsecStep
  rw [h]

theorem rdsecStep_aSec {s : State} (h : s.phase = .aSec) : rdsecStep s = rdsecASec s := by
  unfold rdsecStep
  rw [h]

theorem rdsecStep_aChk {s : State} (h : s.phase = .aChk) : rdsecStep s = rdsecAChk s := by
  unfold rdsecStep
  rw [h]

theorem rdsecStep_aEpi {s : State} (h : s.phase = .aEpi) : rdsecStep s = rdsecAEpi s := by
  unfold rdsecStep
  rw [h]

theorem rdsecStep_aEpi3 {s : State} (h : s.phase = .aEpi3) : rdsecStep s = rdsecAEpi3 s := by
  unfold rdsecStep
  rw [h]

theorem rdsecStep_dSync {s : State} (h : s.phase = .dSync) : rdsecStep s = rdsecDSync s := by
  unfold rdsecStep
  rw [h]

theorem rdsecStep_dPro {s : State} (h : s.phase = .dPro) : rdsecStep s = rdsecDPro s := by
  unfold rdsecStep
  rw [h]

theorem rdsecStep_dData {s : State} (h : s.phase = .dData) : rdsecStep s = rdsecDData s := by
  unfold rdsecStep
  rw [h]

theorem rdsecStep_dChk {s : State} (h : s.phase = .dChk) : rdsecStep s = rdsecDChk s := by
  unfold rdsecStep
  rw [h]

theorem rdsecStep_dEpi {s : State} (h : s.phase = .dEpi) : rdsecStep s = rdsecDEpi s := by
  unfold rdsecStep
  rw [h]

theorem rdsecStep_dEpi3 {s : State} (h : s.phase = .dEpi3) : rdsecStep s = rdsecDEpi3 s := by
  unfold rdsecStep
  rw [h]

/-- Every effect one event can have on a state that no longer lists it. -/
inductive Effect : Event → State → State → Prop where
  | nothingToDo {s} : runningCommand s = none → Effect .turn s s
  | nibbleStep {s} (i : Instr) : runningIn i s = true → Effect .turn s (nibbleStepOf i s)
  | command {s} (i : Instr) : s.busy = false →
      Effect (.write 0x000 (encodeByte i)) s (startOf i (accept (encodeByte i) s))
  | illegal {s} (v : Byte) (e : Illegal) : s.busy = false → decodeByte v = .error e →
      Effect (.write 0x000 v) s (illegalCommand v s)
  | register {s} (index : Nat) (v : Byte) : s.busy = false → accessOf index = .readWrite →
      Effect (.write index v) s (writeRegister index v s)
  | ignored {s} (index : Nat) (v : Byte) : s.busy = true → accessOf index = .command ∨ accessOf index = .readWrite →
      Effect (.write index v) s (ignoreWrite s)
  | noWrite {s} (index : Nat) (v : Byte) : accessOf index = .readOnly ∨ accessOf index = .reserved →
      Effect (.write index v) s s
  | read {s} (index : Nat) (b : Byte) : readIndex s index = .ok b →
      Effect (.read index) s { s with reads := (index, b) :: s.reads }
  | reset {s} : Effect .reset s (assertReset s)
  | connect {s} (c : Cursor) : Effect (.connect c) s (connectStream c s)

theorem accessOf_command {index : Nat} (h : accessOf index = .command) : index = 0 := by
  unfold accessOf at h
  split at h
  · assumption
  · split at h
    · cases h
    · split at h
      · cases h
      · split at h
        · cases h
        · split at h <;> cases h

theorem blockTurn_effect {s t : State} (h : blockTurn s = .next t) : Effect .turn s t := by
  unfold blockTurn at h
  split at h
  · rename_i i hi
    rw [runningCommand_eq_some] at hi
    rw [exec_running hi] at h
    cases h
    exact .nibbleStep i hi
  · rename_i hi
    cases h
    exact .nothingToDo hi

theorem hostWrite_effect {index : Nat} {v : Byte} {s t : State} (h : hostWrite index v s = .next t) :
    Effect (.write index v) s t := by
  unfold hostWrite at h
  split at h
  · cases h
  · split at h
    · rename_i ha
      split at h
      · rename_i hb
        cases h
        exact .ignored index v hb (.inl ha)
      · rename_i hb
        have hb : s.busy = false := by simpa using hb
        obtain rfl := accessOf_command ha
        unfold issueByte at h
        split at h
        · rename_i i hi
          rw [exec_idle i hb] at h
          cases h
          rw [← encodeByte_of_decodeByte hi]
          exact .command i hb
        · rename_i e he
          cases h
          exact .illegal v e hb he
    · rename_i ha
      split at h
      · rename_i hb
        cases h
        exact .ignored index v hb (.inr ha)
      · rename_i hb
        cases h
        exact .register index v (by simpa using hb) ha
    · rename_i ha
      cases h
      exact .noWrite index v (.inl ha)
    · rename_i ha
      cases h
      exact .noWrite index v (.inr ha)

theorem hostRead_effect {index : Nat} {s t : State} (h : hostRead index s = .next t) : Effect (.read index) s t := by
  unfold hostRead at h
  split at h
  · cases h
  · split at h
    · rename_i b hb
      cases h
      exact .read index b hb
    · cases h

theorem doEvent_effect {e : Event} {s t : State} (h : doEvent e s = .next t) : Effect e s t := by
  cases e with
  | write index v => exact hostWrite_effect h
  | read index => exact hostRead_effect h
  | reset => cases h; exact .reset
  | connect c => cases h; exact .connect c
  | turn => exact blockTurn_effect h

theorem step_eq (s : State) : step s = doEvent (eventOf s) (popEvent s) := by
  unfold step nextEvent
  split
  · rename_i h
    have : popEvent s = s := by
      obtain ⟨⟩ := s
      simp_all [popEvent]
    simp [eventOf, h, doEvent, this]
  · rename_i e rest h
    simp [eventOf, popEvent, h]

/-- Everything a step that answers a next state can have done. -/
theorem step_effect {s t : State} (h : step s = .next t) : Effect (eventOf s) (popEvent s) t :=
  doEvent_effect (by rw [← step_eq, h])

end Sys2Proof.Machine
end

