-- ==== Sys2Proof/Laws/Memory.lean ====
section
/-! SUPPORT. The laws of the payload buffer: a read after a write, the canonical form and the range kept by every operation. -/

namespace Sys2Proof.Machine

theorem memoryRead_write_same (m : Memory) (i : Nat) (b : Byte) : memoryRead (memoryWrite m i b) i = some b := by
  induction m with
  | nil => simp [memoryWrite, memoryRead]
  | cons c rest ih =>
    obtain ⟨a, v⟩ := c
    simp only [memoryWrite]
    split
    · simp [memoryRead]
    · split
      · simp [memoryRead]
      · rename_i h
        simp [memoryRead, h, ih]

theorem memoryRead_write_other (m : Memory) (i k : Nat) (b : Byte) (h : k ≠ i) :
    memoryRead (memoryWrite m i b) k = memoryRead m k := by
  induction m with
  | nil => simp [memoryWrite, memoryRead, h]
  | cons c rest ih =>
    obtain ⟨a, v⟩ := c
    simp only [memoryWrite]
    split
    · simp [memoryRead, h]
    · split
      · rename_i h'
        subst h'
        simp [memoryRead, h]
      · simp only [memoryRead, ih]

/-- What a buffer reads after a write, at any index. -/
theorem memoryRead_write (m : Memory) (i k : Nat) (b : Byte) :
    memoryRead (memoryWrite m i b) k = if k = i then some b else memoryRead m k := by
  split
  · rename_i h
    rw [h, memoryRead_write_same]
  · rename_i h
    exact memoryRead_write_other m i k b h

theorem wf_cons_iff (c : Host.Cell) (m : Memory) :
    Memory.wf (c :: m) = true ↔ (∀ d ∈ m.head?, c.1 < d.1) ∧ Memory.wf m = true := by
  cases m with
  | nil => simp [Memory.wf]
  | cons d rest => simp [Memory.wf]

theorem head?_memoryWrite (m : Memory) (i : Nat) (b : Byte) :
    ∀ d ∈ (memoryWrite m i b).head?, d.1 = i ∨ ∃ e ∈ m.head?, d.1 = e.1 := by
  cases m with
  | nil => simp [memoryWrite]
  | cons c rest =>
    obtain ⟨a, v⟩ := c
    simp only [memoryWrite]
    split
    · simp
    · split <;> simp

theorem wf_memoryWrite (m : Memory) (i : Nat) (b : Byte) (h : m.wf = true) : (memoryWrite m i b).wf = true := by
  induction m with
  | nil => simp [memoryWrite, Memory.wf]
  | cons c rest ih =>
    obtain ⟨a, v⟩ := c
    obtain ⟨hhead, hrest⟩ := (wf_cons_iff _ _).1 h
    simp only [memoryWrite]
    split
    · rename_i hlt
      rw [wf_cons_iff]
      exact ⟨by simpa using hlt, h⟩
    · split
      · rename_i hge heq
        subst heq
        rw [wf_cons_iff]
        exact ⟨hhead, hrest⟩
      · rename_i hge hne
        rw [wf_cons_iff]
        refine ⟨fun d hd => ?_, ih hrest⟩
        rcases head?_memoryWrite rest i b d hd with he | ⟨e, he, hde⟩
        · simp only
          omega
        · simpa [hde] using hhead e he

theorem inRange_memoryWrite (m : Memory) (i : Nat) (b : Byte) (h : m.inRange = true) (lo : 0x100 ≤ i) (hi : i ≤ 0x1FF) :
    (memoryWrite m i b).inRange = true := by
  induction m with
  | nil => simp [memoryWrite, Memory.inRange, lo, hi]
  | cons c rest ih =>
    obtain ⟨a, v⟩ := c
    simp only [Memory.inRange, List.all_cons, Bool.and_eq_true, decide_eq_true_eq] at h ih
    simp only [memoryWrite]
    split
    · simp [Memory.inRange, lo, hi, h.1, h.2]
    · split
      · simp [Memory.inRange, lo, hi, h.2]
      · simp [Memory.inRange, h.1, ih h.2]

theorem wf_redrawPayload (n : Nat) (m : Memory) : (redrawPayload n m).wf = m.wf := by
  induction m with
  | nil => rfl
  | cons c rest ih =>
    cases rest with
    | nil => rfl
    | cons d rest =>
      simp only [redrawPayload, List.map_cons, Memory.wf] at ih ⊢
      rw [ih]

theorem inRange_redrawPayload (n : Nat) (m : Memory) : (redrawPayload n m).inRange = m.inRange := by
  simp [redrawPayload, Memory.inRange, List.all_map, Function.comp_def]

/-- A draw keeps which indices have a value. -/
theorem memoryRead_redrawPayload (n : Nat) (m : Memory) (i : Nat) :
    memoryRead (redrawPayload n m) i = (memoryRead m i).map fun _ => Config.freePayload n i := by
  induction m with
  | nil => rfl
  | cons c rest ih =>
    obtain ⟨a, v⟩ := c
    simp only [redrawPayload, List.map_cons, memoryRead] at ih ⊢
    split
    · rename_i h
      simp [h]
    · exact ih

/-- The payload buffer of the state after reset is in form. -/
theorem reset_payload_form : State.reset.payload.wf = true ∧ State.reset.payload.inRange = true := ⟨rfl, rfl⟩

end Sys2Proof.Machine
end

