-- ==== Sys2Proof/Laws/Ops.lean ====
section
/-! SUPPORT. Said once for each shared operation: everything it can do. -/

namespace Sys2Proof.Machine

@[simp] theorem next_nibble (b : Byte) (rest : List Offer) (tail : Tail) :
    Cursor.next { offers := .nibble b :: rest, tail := tail } = some (.nibble b, { offers := rest, tail := tail }) := rfl

@[simp] theorem next_nothing (rest : List Offer) (tail : Tail) :
    Cursor.next { offers := .nothing :: rest, tail := tail } = some (.nothing, { offers := rest, tail := tail }) := rfl

@[simp] theorem next_eos (rest : List Offer) (tail : Tail) :
    Cursor.next { offers := .eos :: rest, tail := tail } = some (.eos, { offers := .eos :: rest, tail := tail }) := rfl

@[simp] theorem next_waits : Cursor.next { offers := [], tail := .waits } = none := rfl

@[simp] theorem next_loops (first : Byte) (more : List Byte) :
    Cursor.next { offers := [], tail := .loops first more } =
      some (.nibble first, { offers := nibbles more, tail := .loops first more }) := rfl

@[simp] theorem next_free (number position : Nat) :
    Cursor.next { offers := [], tail := .free number position } =
      some (.nibble (Config.freeNibble number position), { offers := [], tail := .free number (position + 1) }) := rfl

/-- EOS is never used up (R65). -/
theorem next_sticky {c rest : Cursor} (h : c.next = some (.eos, rest)) : rest = c := by
  unfold Cursor.next at h
  split at h <;> first | (split at h <;> cases h) | (cases h; rfl) | cases h

/-- What `Next()` can do (R64): nothing, wait out an offer of nothing, meet EOS, or consume one byte. -/
theorem onNext_cases (f : State → State) (g : Byte → State → State) (s : State) :
    (s.stream.next = none ∧ onNext f g s = s) ∨
    (∃ rest, s.stream.next = some (.nothing, rest) ∧ onNext f g s = { s with stream := rest }) ∨
    (∃ rest, s.stream.next = some (.eos, rest) ∧ onNext f g s = f s) ∨
    (∃ b rest, s.stream.next = some (.nibble b, rest) ∧ onNext f g s = g b { s with stream := rest }) := by
  unfold onNext
  split
  · exact .inl ⟨by assumption, rfl⟩
  · exact .inr (.inl ⟨_, by assumption, rfl⟩)
  · exact .inr (.inr (.inl ⟨_, by assumption, rfl⟩))
  · exact .inr (.inr (.inr ⟨_, _, by assumption, rfl⟩))

theorem onNext_nibble {f : State → State} {g : Byte → State → State} {s : State} {b : Byte} {rest : Cursor}
    (h : s.stream.next = some (.nibble b, rest)) : onNext f g s = g b { s with stream := rest } := by
  unfold onNext
  rw [h]

theorem onNext_eos {f : State → State} {g : Byte → State → State} {s : State} {rest : Cursor}
    (h : s.stream.next = some (.eos, rest)) : onNext f g s = f s := by
  unfold onNext
  rw [h]

theorem onNext_waits {f : State → State} {g : Byte → State → State} {s : State}
    (h : s.stream.next = none) : onNext f g s = s := by
  unfold onNext
  rw [h]

theorem onNext_nothing {f : State → State} {g : Byte → State → State} {s : State} {rest : Cursor}
    (h : s.stream.next = some (.nothing, rest)) : onNext f g s = { s with stream := rest } := by
  unfold onNext
  rw [h]

/-- A property a stream's advance keeps is kept by `Next()`, if each continuation keeps it. -/
theorem onNext_keeps {P : State → Prop} {f : State → State} {g : Byte → State → State} {s : State}
    (hs : P s) (hstream : ∀ rest, P { s with stream := rest }) (hf : P (f s)) (hg : ∀ b rest, P (g b { s with stream := rest })) :
    P (onNext f g s) := by
  rcases onNext_cases f g s with ⟨-, h⟩ | ⟨rest, -, h⟩ | ⟨rest, -, h⟩ | ⟨b, rest, -, h⟩ <;> rw [h]
  · exact hs
  · exact hstream rest
  · exact hf
  · exact hg b rest

/-- What one nibble of Seek can do (R161). -/
theorem seekStep_keeps {P : State → Prop} {p : List Byte} {f found : State → State} {s : State}
    (hs : P s) (hstream : ∀ rest, P { s with stream := rest }) (hf : P (f s))
    (hfound : ∀ b rest, P (found (shiftWindow p.length b { s with stream := rest })))
    (hmore : ∀ b rest, P (shiftWindow p.length b { s with stream := rest })) :
    P (seekStep p f found s) := by
  refine onNext_keeps hs hstream hf fun b rest => ?_
  dsimp only
  split
  · exact hfound b rest
  · exact hmore b rest

/-- What one nibble of BSearch can do (R162): after it the count is one higher, and a search that goes on is below the window. -/
theorem searchStep_keeps {P : State → Prop} {p : List Byte} {found missed : State → State} {s : State}
    (hs : P s) (hstream : ∀ rest, P { s with stream := rest }) (hf : P (exhausted s))
    (hfound : ∀ b rest, P (found (shiftWindow p.length b { s with stream := rest, wcnt := s.wcnt + 1 })))
    (hmissed : ∀ b rest, P (missed (shiftWindow p.length b { s with stream := rest, wcnt := s.wcnt + 1 })))
    (hmore : ∀ b rest, s.wcnt + 1 < s.window → P (shiftWindow p.length b { s with stream := rest, wcnt := s.wcnt + 1 })) :
    P (searchStep p found missed s) := by
  refine onNext_keeps hs hstream hf fun b rest => ?_
  dsimp only
  split
  · exact hfound b rest
  · split
    · exact hmissed b rest
    · rename_i h
      exact hmore b rest (by simpa using h)

/-- What one nibble of a pair can do (R170). -/
theorem pairStep_keeps {P : State → Prop} {decoded : Byte → State → State} {s : State}
    (hs : P s) (hstream : ∀ rest, P { s with stream := rest }) (hf : P (exhausted s))
    (hsecond : ∀ b rest, s.hiHeld = true → P (decoded (d44 s.hi b) { s with stream := rest, hiHeld := false }))
    (hfirst : ∀ b rest, s.hiHeld = false → P { s with stream := rest, hi := b, hiHeld := true }) :
    P (pairStep decoded s) := by
  refine onNext_keeps hs hstream hf fun b rest => ?_
  dsimp only
  split
  · rename_i h
    exact hsecond b rest h
  · rename_i h
    exact hfirst b rest (by simpa using h)

/-- What one nibble of a decode can do (R138, R139, R143). -/
theorem decodeStep_keeps {P : State → Prop} {ended : State → State} {s : State}
    (hs : P s) (hstream : ∀ rest, P { s with stream := rest }) (hf : P (exhausted s))
    (hended : ∀ n rest, decodeComplete (decodeNibble n { s with stream := rest }) = true →
      P (ended (decodeNibble n { s with stream := rest })))
    (hmore : ∀ n rest, decodeComplete (decodeNibble n { s with stream := rest }) = false →
      P (decodeNibble n { s with stream := rest })) :
    P (decodeStep ended s) := by
  refine onNext_keeps hs hstream hf fun b rest => ?_
  dsimp only
  split
  · rename_i h
    exact hended b rest h
  · rename_i h
    exact hmore b rest (by simpa using h)

/-- One nibble of Seek (R161), said as an equation. -/
theorem seekStep_nibble {p : List Byte} {f found : State → State} {s : State} {b : Byte} {rest : Cursor}
    (h : s.stream.next = some (.nibble b, rest)) :
    seekStep p f found s =
      if lastK p.length (s.win ++ [b]) = p then found { s with stream := rest, win := p }
      else { s with stream := rest, win := lastK p.length (s.win ++ [b]) } := by
  unfold seekStep
  rw [onNext_nibble h]
  by_cases hw : lastK p.length (s.win ++ [b]) = p
  · have hs : shiftWindow p.length b { s with stream := rest } = { s with stream := rest, win := p } := by
      simp only [shiftWindow, hw]
    simp only [hs, if_true, if_pos hw]
  · have hs : (shiftWindow p.length b { s with stream := rest }).win ≠ p := hw
    simp only [if_neg hs, if_neg hw]
    rfl

/-- One nibble of BSearch (R162), said as an equation. -/
theorem searchStep_nibble {p : List Byte} {found missed : State → State} {s : State} {b : Byte} {rest : Cursor}
    (h : s.stream.next = some (.nibble b, rest)) :
    searchStep p found missed s =
      if lastK p.length (s.win ++ [b]) = p then found { s with stream := rest, win := p, wcnt := s.wcnt + 1 }
      else if s.window ≤ s.wcnt + 1 then
        missed { s with stream := rest, win := lastK p.length (s.win ++ [b]), wcnt := s.wcnt + 1 }
      else { s with stream := rest, win := lastK p.length (s.win ++ [b]), wcnt := s.wcnt + 1 } := by
  unfold searchStep
  rw [onNext_nibble h]
  by_cases hw : lastK p.length (s.win ++ [b]) = p
  · have hs : shiftWindow p.length b { s with stream := rest, wcnt := s.wcnt + 1 } =
        { s with stream := rest, win := p, wcnt := s.wcnt + 1 } := by
      simp only [shiftWindow, hw]
    simp only [hs, if_true, if_pos hw]
  · have hs : (shiftWindow p.length b { s with stream := rest, wcnt := s.wcnt + 1 }).win ≠ p := hw
    simp only [if_neg hs, if_neg hw]
    rfl

/-- The first nibble of a pair (R170). -/
theorem pairStep_first {decoded : Byte → State → State} {s : State} {b : Byte} {rest : Cursor}
    (h : s.stream.next = some (.nibble b, rest)) (hh : s.hiHeld = false) :
    pairStep decoded s = { s with stream := rest, hi := b, hiHeld := true } := by
  unfold pairStep
  rw [onNext_nibble h]
  simp only [hh, Bool.false_eq_true, if_false]

/-- The second nibble of a pair (R170). -/
theorem pairStep_second {decoded : Byte → State → State} {s : State} {b : Byte} {rest : Cursor}
    (h : s.stream.next = some (.nibble b, rest)) (hh : s.hiHeld = true) :
    pairStep decoded s = decoded (d44 s.hi b) { s with stream := rest, hiHeld := false } := by
  unfold pairStep
  rw [onNext_nibble h]
  simp only [hh, if_true]

/-- A nibble of a decode before the 342nd (R138, R139). -/
theorem decodeStep_more {ended : State → State} {s : State} {n : Byte} {rest : Cursor}
    (h : s.stream.next = some (.nibble n, rest)) (hi : s.d62Idx.toNat < 341) :
    decodeStep ended s = decodeNibble n { s with stream := rest } := by
  have hc : decodeComplete (decodeNibble n { s with stream := rest }) = false := by
    simp only [decodeComplete, decodeNibble, BitVec.toNat_add]
    simp
    omega
  unfold decodeStep
  rw [onNext_nibble h]
  simp only [hc, Bool.false_eq_true, if_false]

/-- The 342nd nibble of a decode (R143). -/
theorem decodeStep_last {ended : State → State} {s : State} {n : Byte} {rest : Cursor}
    (h : s.stream.next = some (.nibble n, rest)) (hi : s.d62Idx.toNat = 341) :
    decodeStep ended s = ended (decodeNibble n { s with stream := rest }) := by
  have hc : decodeComplete (decodeNibble n { s with stream := rest }) = true := by
    simp only [decodeComplete, decodeNibble, BitVec.toNat_add]
    simp [hi]
  unfold decodeStep
  rw [onNext_nibble h]
  simp only [hc, if_true]

/-- A window of the last k entries holds at most k. -/
theorem length_lastK (k : Nat) (w : List Byte) : (lastK k w).length ≤ k := by
  simp only [lastK, List.length_drop]
  omega

theorem length_patternBytes (p : Pattern) (s : State) : 1 ≤ (patternBytes p s).length ∧ (patternBytes p s).length ≤ 3 := by
  cases p <;> simp [patternBytes]

/-! ## The record of an invalid nibble -/

/-- Everything `checkNibble` can do (R142): nothing, or the record of a first invalid nibble. -/
theorem checkNibble_cases (i : Idx) (n : Byte) (s : State) :
    (checkNibble i n s = s ∧ (s.inv = true ∨ (l62 n).isSome = true)) ∨
    (l62 n = none ∧ s.inv = false ∧ checkNibble i n s = { s with invByte := n, invIdx := i, inv := true }) := by
  unfold checkNibble recordInvalid
  cases h : l62 n <;> cases hi : s.inv <;> simp

/-- Everything `storeValue` can do (R138, R139): one entry of TWOS, one entry of PAYLOAD, or nothing. -/
theorem storeValue_cases (i : Nat) (c : Sym) (s : State) :
    (∃ h : i < 86, storeValue i c s = { s with twos := s.twos.set i c }) ∨
    (86 ≤ i ∧ i < 342 ∧ ∃ b, b = payloadByte c (regionBits s.twos[(i - 86) % 86] ((i - 86) / 86)) ∧
      storeValue i c s = { s with payload := memoryWrite s.payload (payloadIndex (i - 86)) b }) ∨
    (342 ≤ i ∧ storeValue i c s = s) := by
  unfold storeValue
  split
  · rename_i h
    exact .inl ⟨h, rfl⟩
  · split
    · exact .inr (.inl ⟨by omega, by assumption, _, rfl, rfl⟩)
    · exact .inr (.inr ⟨by omega, rfl⟩)

/-! ## What a decode step leaves alone: every field but D62_CHK, D62_IDX, INV_*, TWOS and PAYLOAD -/

@[simp] theorem storeValue_cmd (i : Nat) (c : Sym) (s : State) : (storeValue i c s).cmd = s.cmd := by
  unfold storeValue
  split <;> [rfl; split <;> rfl]

@[simp] theorem storeValue_busy (i : Nat) (c : Sym) (s : State) : (storeValue i c s).busy = s.busy := by
  unfold storeValue
  split <;> [rfl; split <;> rfl]

@[simp] theorem storeValue_done (i : Nat) (c : Sym) (s : State) : (storeValue i c s).done = s.done := by
  unfold storeValue
  split <;> [rfl; split <;> rfl]

@[simp] theorem storeValue_ok (i : Nat) (c : Sym) (s : State) : (storeValue i c s).ok = s.ok := by
  unfold storeValue
  split <;> [rfl; split <;> rfl]

@[simp] theorem storeValue_wbusy (i : Nat) (c : Sym) (s : State) : (storeValue i c s).wbusy = s.wbusy := by
  unfold storeValue
  split <;> [rfl; split <;> rfl]

@[simp] theorem storeValue_sev (i : Nat) (c : Sym) (s : State) : (storeValue i c s).sev = s.sev := by
  unfold storeValue
  split <;> [rfl; split <;> rfl]

@[simp] theorem storeValue_kind (i : Nat) (c : Sym) (s : State) : (storeValue i c s).kind = s.kind := by
  unfold storeValue
  split <;> [rfl; split <;> rfl]

@[simp] theorem storeValue_res (i : Nat) (c : Sym) (s : State) : (storeValue i c s).res = s.res := by
  unfold storeValue
  split <;> [rfl; split <;> rfl]

@[simp] theorem storeValue_opa (i : Nat) (c : Sym) (s : State) : (storeValue i c s).opa = s.opa := by
  unfold storeValue
  split <;> [rfl; split <;> rfl]

@[simp] theorem storeValue_opb (i : Nat) (c : Sym) (s : State) : (storeValue i c s).opb = s.opb := by
  unfold storeValue
  split <;> [rfl; split <;> rfl]

@[simp] theorem storeValue_opc (i : Nat) (c : Sym) (s : State) : (storeValue i c s).opc = s.opc := by
  unfold storeValue
  split <;> [rfl; split <;> rfl]

@[simp] theorem storeValue_opd (i : Nat) (c : Sym) (s : State) : (storeValue i c s).opd = s.opd := by
  unfold storeValue
  split <;> [rfl; split <;> rfl]

@[simp] theorem storeValue_cfgTrack (i : Nat) (c : Sym) (s : State) : (storeValue i c s).cfgTrack = s.cfgTrack := by
  unfold storeValue
  split <;> [rfl; split <;> rfl]

@[simp] theorem storeValue_cfgApro0 (i : Nat) (c : Sym) (s : State) : (storeValue i c s).cfgApro0 = s.cfgApro0 := by
  unfold storeValue
  split <;> [rfl; split <;> rfl]

@[simp] theorem storeValue_cfgApro1 (i : Nat) (c : Sym) (s : State) : (storeValue i c s).cfgApro1 = s.cfgApro1 := by
  unfold storeValue
  split <;> [rfl; split <;> rfl]

@[simp] theorem storeValue_cfgApro2 (i : Nat) (c : Sym) (s : State) : (storeValue i c s).cfgApro2 = s.cfgApro2 := by
  unfold storeValue
  split <;> [rfl; split <;> rfl]

@[simp] theorem storeValue_cfgAepi0 (i : Nat) (c : Sym) (s : State) : (storeValue i c s).cfgAepi0 = s.cfgAepi0 := by
  unfold storeValue
  split <;> [rfl; split <;> rfl]

@[simp] theorem storeValue_cfgAepi1 (i : Nat) (c : Sym) (s : State) : (storeValue i c s).cfgAepi1 = s.cfgAepi1 := by
  unfold storeValue
  split <;> [rfl; split <;> rfl]

@[simp] theorem storeValue_cfgAepi2 (i : Nat) (c : Sym) (s : State) : (storeValue i c s).cfgAepi2 = s.cfgAepi2 := by
  unfold storeValue
  split <;> [rfl; split <;> rfl]

@[simp] theorem storeValue_cfgDpro0 (i : Nat) (c : Sym) (s : State) : (storeValue i c s).cfgDpro0 = s.cfgDpro0 := by
  unfold storeValue
  split <;> [rfl; split <;> rfl]

@[simp] theorem storeValue_cfgDpro1 (i : Nat) (c : Sym) (s : State) : (storeValue i c s).cfgDpro1 = s.cfgDpro1 := by
  unfold storeValue
  split <;> [rfl; split <;> rfl]

@[simp] theorem storeValue_cfgDpro2 (i : Nat) (c : Sym) (s : State) : (storeValue i c s).cfgDpro2 = s.cfgDpro2 := by
  unfold storeValue
  split <;> [rfl; split <;> rfl]

@[simp] theorem storeValue_cfgDepi0 (i : Nat) (c : Sym) (s : State) : (storeValue i c s).cfgDepi0 = s.cfgDepi0 := by
  unfold storeValue
  split <;> [rfl; split <;> rfl]

@[simp] theorem storeValue_cfgDepi1 (i : Nat) (c : Sym) (s : State) : (storeValue i c s).cfgDepi1 = s.cfgDepi1 := by
  unfold storeValue
  split <;> [rfl; split <;> rfl]

@[simp] theorem storeValue_cfgDepi2 (i : Nat) (c : Sym) (s : State) : (storeValue i c s).cfgDepi2 = s.cfgDepi2 := by
  unfold storeValue
  split <;> [rfl; split <;> rfl]

@[simp] theorem storeValue_afVol (i : Nat) (c : Sym) (s : State) : (storeValue i c s).afVol = s.afVol := by
  unfold storeValue
  split <;> [rfl; split <;> rfl]

@[simp] theorem storeValue_afTrk (i : Nat) (c : Sym) (s : State) : (storeValue i c s).afTrk = s.afTrk := by
  unfold storeValue
  split <;> [rfl; split <;> rfl]

@[simp] theorem storeValue_afSec (i : Nat) (c : Sym) (s : State) : (storeValue i c s).afSec = s.afSec := by
  unfold storeValue
  split <;> [rfl; split <;> rfl]

@[simp] theorem storeValue_afChk (i : Nat) (c : Sym) (s : State) : (storeValue i c s).afChk = s.afChk := by
  unfold storeValue
  split <;> [rfl; split <;> rfl]

@[simp] theorem storeValue_d62Chk (i : Nat) (c : Sym) (s : State) : (storeValue i c s).d62Chk = s.d62Chk := by
  unfold storeValue
  split <;> [rfl; split <;> rfl]

@[simp] theorem storeValue_invByte (i : Nat) (c : Sym) (s : State) : (storeValue i c s).invByte = s.invByte := by
  unfold storeValue
  split <;> [rfl; split <;> rfl]

@[simp] theorem storeValue_invIdx (i : Nat) (c : Sym) (s : State) : (storeValue i c s).invIdx = s.invIdx := by
  unfold storeValue
  split <;> [rfl; split <;> rfl]

@[simp] theorem storeValue_inv (i : Nat) (c : Sym) (s : State) : (storeValue i c s).inv = s.inv := by
  unfold storeValue
  split <;> [rfl; split <;> rfl]

@[simp] theorem storeValue_phase (i : Nat) (c : Sym) (s : State) : (storeValue i c s).phase = s.phase := by
  unfold storeValue
  split <;> [rfl; split <;> rfl]

@[simp] theorem storeValue_win (i : Nat) (c : Sym) (s : State) : (storeValue i c s).win = s.win := by
  unfold storeValue
  split <;> [rfl; split <;> rfl]

@[simp] theorem storeValue_wcnt (i : Nat) (c : Sym) (s : State) : (storeValue i c s).wcnt = s.wcnt := by
  unfold storeValue
  split <;> [rfl; split <;> rfl]

@[simp] theorem storeValue_hi (i : Nat) (c : Sym) (s : State) : (storeValue i c s).hi = s.hi := by
  unfold storeValue
  split <;> [rfl; split <;> rfl]

@[simp] theorem storeValue_hiHeld (i : Nat) (c : Sym) (s : State) : (storeValue i c s).hiHeld = s.hiHeld := by
  unfold storeValue
  split <;> [rfl; split <;> rfl]

@[simp] theorem storeValue_d62Idx (i : Nat) (c : Sym) (s : State) : (storeValue i c s).d62Idx = s.d62Idx := by
  unfold storeValue
  split <;> [rfl; split <;> rfl]

@[simp] theorem storeValue_window (i : Nat) (c : Sym) (s : State) : (storeValue i c s).window = s.window := by
  unfold storeValue
  split <;> [rfl; split <;> rfl]

@[simp] theorem storeValue_trailingInvalid (i : Nat) (c : Sym) (s : State) : (storeValue i c s).trailingInvalid = s.trailingInvalid := by
  unfold storeValue
  split <;> [rfl; split <;> rfl]

@[simp] theorem storeValue_stream (i : Nat) (c : Sym) (s : State) : (storeValue i c s).stream = s.stream := by
  unfold storeValue
  split <;> [rfl; split <;> rfl]

@[simp] theorem storeValue_agenda (i : Nat) (c : Sym) (s : State) : (storeValue i c s).agenda = s.agenda := by
  unfold storeValue
  split <;> [rfl; split <;> rfl]

@[simp] theorem storeValue_reads (i : Nat) (c : Sym) (s : State) : (storeValue i c s).reads = s.reads := by
  unfold storeValue
  split <;> [rfl; split <;> rfl]

@[simp] theorem storeValue_draws (i : Nat) (c : Sym) (s : State) : (storeValue i c s).draws = s.draws := by
  unfold storeValue
  split <;> [rfl; split <;> rfl]

@[simp] theorem checkNibble_cmd (i : Idx) (n : Byte) (s : State) : (checkNibble i n s).cmd = s.cmd := by
  unfold checkNibble recordInvalid
  split <;> [rfl; split <;> rfl]

@[simp] theorem checkNibble_busy (i : Idx) (n : Byte) (s : State) : (checkNibble i n s).busy = s.busy := by
  unfold checkNibble recordInvalid
  split <;> [rfl; split <;> rfl]

@[simp] theorem checkNibble_done (i : Idx) (n : Byte) (s : State) : (checkNibble i n s).done = s.done := by
  unfold checkNibble recordInvalid
  split <;> [rfl; split <;> rfl]

@[simp] theorem checkNibble_ok (i : Idx) (n : Byte) (s : State) : (checkNibble i n s).ok = s.ok := by
  unfold checkNibble recordInvalid
  split <;> [rfl; split <;> rfl]

@[simp] theorem checkNibble_wbusy (i : Idx) (n : Byte) (s : State) : (checkNibble i n s).wbusy = s.wbusy := by
  unfold checkNibble recordInvalid
  split <;> [rfl; split <;> rfl]

@[simp] theorem checkNibble_sev (i : Idx) (n : Byte) (s : State) : (checkNibble i n s).sev = s.sev := by
  unfold checkNibble recordInvalid
  split <;> [rfl; split <;> rfl]

@[simp] theorem checkNibble_kind (i : Idx) (n : Byte) (s : State) : (checkNibble i n s).kind = s.kind := by
  unfold checkNibble recordInvalid
  split <;> [rfl; split <;> rfl]

@[simp] theorem checkNibble_res (i : Idx) (n : Byte) (s : State) : (checkNibble i n s).res = s.res := by
  unfold checkNibble recordInvalid
  split <;> [rfl; split <;> rfl]

@[simp] theorem checkNibble_opa (i : Idx) (n : Byte) (s : State) : (checkNibble i n s).opa = s.opa := by
  unfold checkNibble recordInvalid
  split <;> [rfl; split <;> rfl]

@[simp] theorem checkNibble_opb (i : Idx) (n : Byte) (s : State) : (checkNibble i n s).opb = s.opb := by
  unfold checkNibble recordInvalid
  split <;> [rfl; split <;> rfl]

@[simp] theorem checkNibble_opc (i : Idx) (n : Byte) (s : State) : (checkNibble i n s).opc = s.opc := by
  unfold checkNibble recordInvalid
  split <;> [rfl; split <;> rfl]

@[simp] theorem checkNibble_opd (i : Idx) (n : Byte) (s : State) : (checkNibble i n s).opd = s.opd := by
  unfold checkNibble recordInvalid
  split <;> [rfl; split <;> rfl]

@[simp] theorem checkNibble_cfgTrack (i : Idx) (n : Byte) (s : State) : (checkNibble i n s).cfgTrack = s.cfgTrack := by
  unfold checkNibble recordInvalid
  split <;> [rfl; split <;> rfl]

@[simp] theorem checkNibble_cfgApro0 (i : Idx) (n : Byte) (s : State) : (checkNibble i n s).cfgApro0 = s.cfgApro0 := by
  unfold checkNibble recordInvalid
  split <;> [rfl; split <;> rfl]

@[simp] theorem checkNibble_cfgApro1 (i : Idx) (n : Byte) (s : State) : (checkNibble i n s).cfgApro1 = s.cfgApro1 := by
  unfold checkNibble recordInvalid
  split <;> [rfl; split <;> rfl]

@[simp] theorem checkNibble_cfgApro2 (i : Idx) (n : Byte) (s : State) : (checkNibble i n s).cfgApro2 = s.cfgApro2 := by
  unfold checkNibble recordInvalid
  split <;> [rfl; split <;> rfl]

@[simp] theorem checkNibble_cfgAepi0 (i : Idx) (n : Byte) (s : State) : (checkNibble i n s).cfgAepi0 = s.cfgAepi0 := by
  unfold checkNibble recordInvalid
  split <;> [rfl; split <;> rfl]

@[simp] theorem checkNibble_cfgAepi1 (i : Idx) (n : Byte) (s : State) : (checkNibble i n s).cfgAepi1 = s.cfgAepi1 := by
  unfold checkNibble recordInvalid
  split <;> [rfl; split <;> rfl]

@[simp] theorem checkNibble_cfgAepi2 (i : Idx) (n : Byte) (s : State) : (checkNibble i n s).cfgAepi2 = s.cfgAepi2 := by
  unfold checkNibble recordInvalid
  split <;> [rfl; split <;> rfl]

@[simp] theorem checkNibble_cfgDpro0 (i : Idx) (n : Byte) (s : State) : (checkNibble i n s).cfgDpro0 = s.cfgDpro0 := by
  unfold checkNibble recordInvalid
  split <;> [rfl; split <;> rfl]

@[simp] theorem checkNibble_cfgDpro1 (i : Idx) (n : Byte) (s : State) : (checkNibble i n s).cfgDpro1 = s.cfgDpro1 := by
  unfold checkNibble recordInvalid
  split <;> [rfl; split <;> rfl]

@[simp] theorem checkNibble_cfgDpro2 (i : Idx) (n : Byte) (s : State) : (checkNibble i n s).cfgDpro2 = s.cfgDpro2 := by
  unfold checkNibble recordInvalid
  split <;> [rfl; split <;> rfl]

@[simp] theorem checkNibble_cfgDepi0 (i : Idx) (n : Byte) (s : State) : (checkNibble i n s).cfgDepi0 = s.cfgDepi0 := by
  unfold checkNibble recordInvalid
  split <;> [rfl; split <;> rfl]

@[simp] theorem checkNibble_cfgDepi1 (i : Idx) (n : Byte) (s : State) : (checkNibble i n s).cfgDepi1 = s.cfgDepi1 := by
  unfold checkNibble recordInvalid
  split <;> [rfl; split <;> rfl]

@[simp] theorem checkNibble_cfgDepi2 (i : Idx) (n : Byte) (s : State) : (checkNibble i n s).cfgDepi2 = s.cfgDepi2 := by
  unfold checkNibble recordInvalid
  split <;> [rfl; split <;> rfl]

@[simp] theorem checkNibble_afVol (i : Idx) (n : Byte) (s : State) : (checkNibble i n s).afVol = s.afVol := by
  unfold checkNibble recordInvalid
  split <;> [rfl; split <;> rfl]

@[simp] theorem checkNibble_afTrk (i : Idx) (n : Byte) (s : State) : (checkNibble i n s).afTrk = s.afTrk := by
  unfold checkNibble recordInvalid
  split <;> [rfl; split <;> rfl]

@[simp] theorem checkNibble_afSec (i : Idx) (n : Byte) (s : State) : (checkNibble i n s).afSec = s.afSec := by
  unfold checkNibble recordInvalid
  split <;> [rfl; split <;> rfl]

@[simp] theorem checkNibble_afChk (i : Idx) (n : Byte) (s : State) : (checkNibble i n s).afChk = s.afChk := by
  unfold checkNibble recordInvalid
  split <;> [rfl; split <;> rfl]

@[simp] theorem checkNibble_d62Chk (i : Idx) (n : Byte) (s : State) : (checkNibble i n s).d62Chk = s.d62Chk := by
  unfold checkNibble recordInvalid
  split <;> [rfl; split <;> rfl]

@[simp] theorem checkNibble_phase (i : Idx) (n : Byte) (s : State) : (checkNibble i n s).phase = s.phase := by
  unfold checkNibble recordInvalid
  split <;> [rfl; split <;> rfl]

@[simp] theorem checkNibble_payload (i : Idx) (n : Byte) (s : State) : (checkNibble i n s).payload = s.payload := by
  unfold checkNibble recordInvalid
  split <;> [rfl; split <;> rfl]

@[simp] theorem checkNibble_twos (i : Idx) (n : Byte) (s : State) : (checkNibble i n s).twos = s.twos := by
  unfold checkNibble recordInvalid
  split <;> [rfl; split <;> rfl]

@[simp] theorem checkNibble_win (i : Idx) (n : Byte) (s : State) : (checkNibble i n s).win = s.win := by
  unfold checkNibble recordInvalid
  split <;> [rfl; split <;> rfl]

@[simp] theorem checkNibble_wcnt (i : Idx) (n : Byte) (s : State) : (checkNibble i n s).wcnt = s.wcnt := by
  unfold checkNibble recordInvalid
  split <;> [rfl; split <;> rfl]

@[simp] theorem checkNibble_hi (i : Idx) (n : Byte) (s : State) : (checkNibble i n s).hi = s.hi := by
  unfold checkNibble recordInvalid
  split <;> [rfl; split <;> rfl]

@[simp] theorem checkNibble_hiHeld (i : Idx) (n : Byte) (s : State) : (checkNibble i n s).hiHeld = s.hiHeld := by
  unfold checkNibble recordInvalid
  split <;> [rfl; split <;> rfl]

@[simp] theorem checkNibble_d62Idx (i : Idx) (n : Byte) (s : State) : (checkNibble i n s).d62Idx = s.d62Idx := by
  unfold checkNibble recordInvalid
  split <;> [rfl; split <;> rfl]

@[simp] theorem checkNibble_window (i : Idx) (n : Byte) (s : State) : (checkNibble i n s).window = s.window := by
  unfold checkNibble recordInvalid
  split <;> [rfl; split <;> rfl]

@[simp] theorem checkNibble_trailingInvalid (i : Idx) (n : Byte) (s : State) : (checkNibble i n s).trailingInvalid = s.trailingInvalid := by
  unfold checkNibble recordInvalid
  split <;> [rfl; split <;> rfl]

@[simp] theorem checkNibble_stream (i : Idx) (n : Byte) (s : State) : (checkNibble i n s).stream = s.stream := by
  unfold checkNibble recordInvalid
  split <;> [rfl; split <;> rfl]

@[simp] theorem checkNibble_agenda (i : Idx) (n : Byte) (s : State) : (checkNibble i n s).agenda = s.agenda := by
  unfold checkNibble recordInvalid
  split <;> [rfl; split <;> rfl]

@[simp] theorem checkNibble_reads (i : Idx) (n : Byte) (s : State) : (checkNibble i n s).reads = s.reads := by
  unfold checkNibble recordInvalid
  split <;> [rfl; split <;> rfl]

@[simp] theorem checkNibble_draws (i : Idx) (n : Byte) (s : State) : (checkNibble i n s).draws = s.draws := by
  unfold checkNibble recordInvalid
  split <;> [rfl; split <;> rfl]

@[simp] theorem decodeNibble_cmd (n : Byte) (s : State) : (decodeNibble n s).cmd = s.cmd := by
  simp [decodeNibble]

@[simp] theorem decodeNibble_busy (n : Byte) (s : State) : (decodeNibble n s).busy = s.busy := by
  simp [decodeNibble]

@[simp] theorem decodeNibble_done (n : Byte) (s : State) : (decodeNibble n s).done = s.done := by
  simp [decodeNibble]

@[simp] theorem decodeNibble_ok (n : Byte) (s : State) : (decodeNibble n s).ok = s.ok := by
  simp [decodeNibble]

@[simp] theorem decodeNibble_wbusy (n : Byte) (s : State) : (decodeNibble n s).wbusy = s.wbusy := by
  simp [decodeNibble]

@[simp] theorem decodeNibble_sev (n : Byte) (s : State) : (decodeNibble n s).sev = s.sev := by
  simp [decodeNibble]

@[simp] theorem decodeNibble_kind (n : Byte) (s : State) : (decodeNibble n s).kind = s.kind := by
  simp [decodeNibble]

@[simp] theorem decodeNibble_res (n : Byte) (s : State) : (decodeNibble n s).res = s.res := by
  simp [decodeNibble]

@[simp] theorem decodeNibble_opa (n : Byte) (s : State) : (decodeNibble n s).opa = s.opa := by
  simp [decodeNibble]

@[simp] theorem decodeNibble_opb (n : Byte) (s : State) : (decodeNibble n s).opb = s.opb := by
  simp [decodeNibble]

@[simp] theorem decodeNibble_opc (n : Byte) (s : State) : (decodeNibble n s).opc = s.opc := by
  simp [decodeNibble]

@[simp] theorem decodeNibble_opd (n : Byte) (s : State) : (decodeNibble n s).opd = s.opd := by
  simp [decodeNibble]

@[simp] theorem decodeNibble_cfgTrack (n : Byte) (s : State) : (decodeNibble n s).cfgTrack = s.cfgTrack := by
  simp [decodeNibble]

@[simp] theorem decodeNibble_cfgApro0 (n : Byte) (s : State) : (decodeNibble n s).cfgApro0 = s.cfgApro0 := by
  simp [decodeNibble]

@[simp] theorem decodeNibble_cfgApro1 (n : Byte) (s : State) : (decodeNibble n s).cfgApro1 = s.cfgApro1 := by
  simp [decodeNibble]

@[simp] theorem decodeNibble_cfgApro2 (n : Byte) (s : State) : (decodeNibble n s).cfgApro2 = s.cfgApro2 := by
  simp [decodeNibble]

@[simp] theorem decodeNibble_cfgAepi0 (n : Byte) (s : State) : (decodeNibble n s).cfgAepi0 = s.cfgAepi0 := by
  simp [decodeNibble]

@[simp] theorem decodeNibble_cfgAepi1 (n : Byte) (s : State) : (decodeNibble n s).cfgAepi1 = s.cfgAepi1 := by
  simp [decodeNibble]

@[simp] theorem decodeNibble_cfgAepi2 (n : Byte) (s : State) : (decodeNibble n s).cfgAepi2 = s.cfgAepi2 := by
  simp [decodeNibble]

@[simp] theorem decodeNibble_cfgDpro0 (n : Byte) (s : State) : (decodeNibble n s).cfgDpro0 = s.cfgDpro0 := by
  simp [decodeNibble]

@[simp] theorem decodeNibble_cfgDpro1 (n : Byte) (s : State) : (decodeNibble n s).cfgDpro1 = s.cfgDpro1 := by
  simp [decodeNibble]

@[simp] theorem decodeNibble_cfgDpro2 (n : Byte) (s : State) : (decodeNibble n s).cfgDpro2 = s.cfgDpro2 := by
  simp [decodeNibble]

@[simp] theorem decodeNibble_cfgDepi0 (n : Byte) (s : State) : (decodeNibble n s).cfgDepi0 = s.cfgDepi0 := by
  simp [decodeNibble]

@[simp] theorem decodeNibble_cfgDepi1 (n : Byte) (s : State) : (decodeNibble n s).cfgDepi1 = s.cfgDepi1 := by
  simp [decodeNibble]

@[simp] theorem decodeNibble_cfgDepi2 (n : Byte) (s : State) : (decodeNibble n s).cfgDepi2 = s.cfgDepi2 := by
  simp [decodeNibble]

@[simp] theorem decodeNibble_afVol (n : Byte) (s : State) : (decodeNibble n s).afVol = s.afVol := by
  simp [decodeNibble]

@[simp] theorem decodeNibble_afTrk (n : Byte) (s : State) : (decodeNibble n s).afTrk = s.afTrk := by
  simp [decodeNibble]

@[simp] theorem decodeNibble_afSec (n : Byte) (s : State) : (decodeNibble n s).afSec = s.afSec := by
  simp [decodeNibble]

@[simp] theorem decodeNibble_afChk (n : Byte) (s : State) : (decodeNibble n s).afChk = s.afChk := by
  simp [decodeNibble]

@[simp] theorem decodeNibble_d62Chk (n : Byte) (s : State) : (decodeNibble n s).d62Chk = s.d62Chk ^^^ nibbleValue n := by
  simp [decodeNibble]

@[simp] theorem decodeNibble_invByte (n : Byte) (s : State) : (decodeNibble n s).invByte = (checkNibble s.d62Idx n s).invByte := by
  simp [decodeNibble]

@[simp] theorem decodeNibble_invIdx (n : Byte) (s : State) : (decodeNibble n s).invIdx = (checkNibble s.d62Idx n s).invIdx := by
  simp [decodeNibble]

@[simp] theorem decodeNibble_inv (n : Byte) (s : State) : (decodeNibble n s).inv = (checkNibble s.d62Idx n s).inv := by
  simp [decodeNibble]

@[simp] theorem decodeNibble_phase (n : Byte) (s : State) : (decodeNibble n s).phase = s.phase := by
  simp [decodeNibble]

@[simp] theorem decodeNibble_win (n : Byte) (s : State) : (decodeNibble n s).win = s.win := by
  simp [decodeNibble]

@[simp] theorem decodeNibble_wcnt (n : Byte) (s : State) : (decodeNibble n s).wcnt = s.wcnt := by
  simp [decodeNibble]

@[simp] theorem decodeNibble_hi (n : Byte) (s : State) : (decodeNibble n s).hi = s.hi := by
  simp [decodeNibble]

@[simp] theorem decodeNibble_hiHeld (n : Byte) (s : State) : (decodeNibble n s).hiHeld = s.hiHeld := by
  simp [decodeNibble]

@[simp] theorem decodeNibble_d62Idx (n : Byte) (s : State) : (decodeNibble n s).d62Idx = s.d62Idx + 1 := by
  simp [decodeNibble]

@[simp] theorem decodeNibble_window (n : Byte) (s : State) : (decodeNibble n s).window = s.window := by
  simp [decodeNibble]

@[simp] theorem decodeNibble_trailingInvalid (n : Byte) (s : State) : (decodeNibble n s).trailingInvalid = s.trailingInvalid := by
  simp [decodeNibble]

@[simp] theorem decodeNibble_stream (n : Byte) (s : State) : (decodeNibble n s).stream = s.stream := by
  simp [decodeNibble]

@[simp] theorem decodeNibble_agenda (n : Byte) (s : State) : (decodeNibble n s).agenda = s.agenda := by
  simp [decodeNibble]

@[simp] theorem decodeNibble_reads (n : Byte) (s : State) : (decodeNibble n s).reads = s.reads := by
  simp [decodeNibble]

@[simp] theorem decodeNibble_draws (n : Byte) (s : State) : (decodeNibble n s).draws = s.draws := by
  simp [decodeNibble]

end Sys2Proof.Machine
end

