-- ==== Sys2Proof/Laws/Frame.lean ====
section
/-! SUPPORT. What no command writes, what only RDSEC writes, and what only the decoders write: one lemma for the acceptance and one for
the nibble step of every command. -/

namespace Sys2Proof.Machine

/-- CMD and WBUSY besides the inputs. -/
def nibbleFrame (s t : State) : Prop := t.cmd = s.cmd ∧ t.wbusy = s.wbusy ∧ sameInputs s t

theorem nibbleFrame_refl (s : State) : nibbleFrame s s := by simp [nibbleFrame, sameInputs]

theorem decodeNibble_frame (n : Byte) (s : State) : nibbleFrame s (decodeNibble n s) := by
  simp [nibbleFrame, sameInputs]

/-- The acceptance of a command, after `accept()`, writes no input. -/
theorem startOf_frame (i : Instr) (s : State) : nibbleFrame s (startOf i s) := by
  cases i
  case l62 | ckd =>
    simp only [startOf, l62Body, ckdBody]
    split <;> simp [nibbleFrame, sameInputs]
  all_goals simp [startOf, nopBody, d44Body, ckaBody, cktBody, seekStart, bsrchStart, rdsecStart, nibbleFrame, sameInputs]

theorem rdsecStep_frame (s : State) : nibbleFrame s (rdsecStep s) := by
  have hr := nibbleFrame_refl
  unfold rdsecStep
  split
  · exact seekStep_keeps (hr s) (fun _ => by simp [nibbleFrame, sameInputs]) (hr s) (fun _ _ => by simp [nibbleFrame, sameInputs]) (fun _ _ => by simp [nibbleFrame, sameInputs])
  · exact pairStep_keeps (hr s) (fun _ => by simp [nibbleFrame, sameInputs]) (hr s) (fun _ _ _ => by simp [nibbleFrame, sameInputs]) (fun _ _ _ => by simp [nibbleFrame, sameInputs])
  · exact pairStep_keeps (hr s) (fun _ => by simp [nibbleFrame, sameInputs]) (hr s) (fun _ _ _ => by simp [nibbleFrame, sameInputs]) (fun _ _ _ => by simp [nibbleFrame, sameInputs])
  · refine pairStep_keeps (hr s) (fun _ => by simp [nibbleFrame, sameInputs]) (hr s) (fun _ _ _ => ?_) (fun _ _ _ => by simp [nibbleFrame, sameInputs])
    unfold rdsecTrackCheck
    split <;> exact hr s
  · refine pairStep_keeps (hr s) (fun _ => by simp [nibbleFrame, sameInputs]) (hr s) (fun _ _ _ => ?_) (fun _ _ _ => by simp [nibbleFrame, sameInputs])
    unfold rdsecAddressCheck
    split <;> exact hr s
  · exact searchStep_keeps (hr s) (fun _ => by simp [nibbleFrame, sameInputs]) (hr s) (fun _ _ => by simp [nibbleFrame, sameInputs]) (fun _ _ => by simp [nibbleFrame, sameInputs]) (fun _ _ _ => by simp [nibbleFrame, sameInputs])
  · exact onNext_keeps (P := nibbleFrame s) (hr s) (fun _ => by simp [nibbleFrame, sameInputs]) (hr s) (fun _ _ => by simp [nibbleFrame, sameInputs])
  · exact searchStep_keeps (hr s) (fun _ => by simp [nibbleFrame, sameInputs]) (hr s) (fun _ _ => by simp [nibbleFrame, sameInputs]) (fun _ _ => by simp [nibbleFrame, sameInputs]) (fun _ _ _ => by simp [nibbleFrame, sameInputs])
  · exact searchStep_keeps (hr s) (fun _ => by simp [nibbleFrame, sameInputs]) (hr s) (fun _ _ => by simp [nibbleFrame, sameInputs]) (fun _ _ => by simp [nibbleFrame, sameInputs]) (fun _ _ _ => by simp [nibbleFrame, sameInputs])
  · refine decodeStep_keeps (hr s) (fun _ => by simp [nibbleFrame, sameInputs]) (hr s) (fun n rest _ => ?_) (fun n rest _ => decodeNibble_frame n _)
    unfold rdsecDataEnded
    split <;> simp [nibbleFrame, sameInputs]
  · refine onNext_keeps (P := nibbleFrame s) (hr s) (fun _ => by simp [nibbleFrame, sameInputs]) (hr s) (fun b rest => ?_)
    unfold rdsecTrailing
    split
    · exact hr s
    · split <;> exact hr s
  · exact searchStep_keeps (hr s) (fun _ => by simp [nibbleFrame, sameInputs]) (hr s) (fun _ _ => by simp [nibbleFrame, sameInputs]) (fun _ _ => by simp [nibbleFrame, sameInputs]) (fun _ _ _ => by simp [nibbleFrame, sameInputs])
  · exact onNext_keeps (P := nibbleFrame s) (hr s) (fun _ => by simp [nibbleFrame, sameInputs]) (hr s) (fun _ _ => by simp [nibbleFrame, sameInputs])
  all_goals exact hr s

/-- A nibble step writes no input, and neither CMD nor WBUSY. -/
theorem nibbleStepOf_frame (i : Instr) (s : State) : nibbleFrame s (nibbleStepOf i s) := by
  have hr := nibbleFrame_refl
  cases i
  case nop | d44 | l62 | cka | ckd | ckt => exact hr s
  case rdsec => exact rdsecStep_frame s
  case d62 =>
    refine decodeStep_keeps (hr s) (fun _ => by simp [nibbleFrame, sameInputs]) (hr s) (fun n rest _ => ?_) (fun n rest _ => decodeNibble_frame n _)
    simp [d62Ended, nibbleFrame, sameInputs]
  case skip => exact onNext_keeps (P := nibbleFrame s) (hr s) (fun _ => by simp [nibbleFrame, sameInputs]) (hr s) (fun _ _ => by simp [nibbleFrame, sameInputs])
  case seekApro | seekAepi | seekDpro | seekDepi | seekSync =>
    exact seekStep_keeps (hr s) (fun _ => by simp [nibbleFrame, sameInputs]) (hr s) (fun _ _ => by simp [nibbleFrame, sameInputs]) (fun _ _ => by simp [nibbleFrame, sameInputs])
  all_goals
    exact searchStep_keeps (hr s) (fun _ => by simp [nibbleFrame, sameInputs]) (hr s) (fun _ _ => by simp [nibbleFrame, sameInputs]) (fun _ _ => by simp [nibbleFrame, sameInputs]) (fun _ _ _ => by simp [nibbleFrame, sameInputs])

theorem startOf_addressField (i : Instr) (s : State) (h : i ≠ .rdsec) : sameAddressField s (startOf i s) := by
  cases i
  case rdsec => exact absurd rfl h
  case l62 | ckd =>
    simp only [startOf, l62Body, ckdBody]
    split <;> simp [sameAddressField]
  all_goals simp [startOf, nopBody, d44Body, ckaBody, cktBody, seekStart, bsrchStart, sameAddressField]

theorem nibbleStepOf_addressField (i : Instr) (s : State) (h : i ≠ .rdsec) : sameAddressField s (nibbleStepOf i s) := by
  have hr : sameAddressField s s := by simp [sameAddressField]
  cases i
  case rdsec => exact absurd rfl h
  case nop | d44 | l62 | cka | ckd | ckt => exact hr
  case d62 =>
    refine decodeStep_keeps hr (fun _ => hr) hr (fun n rest _ => ?_) (fun n rest _ => ?_)
    · simp [d62Ended, sameAddressField]
    · simp [sameAddressField]
  case skip => exact onNext_keeps (P := sameAddressField s) hr (fun _ => hr) hr (fun _ _ => hr)
  case seekApro | seekAepi | seekDpro | seekDepi | seekSync =>
    exact seekStep_keeps hr (fun _ => hr) hr (fun _ _ => hr) (fun _ _ => hr)
  all_goals exact searchStep_keeps hr (fun _ => hr) hr (fun _ _ => hr) (fun _ _ => hr) (fun _ _ _ => hr)

theorem startOf_decoder (i : Instr) (s : State) (h : i ≠ .d62) : sameDecoder s (startOf i s) := by
  cases i
  case d62 => exact absurd rfl h
  case l62 | ckd =>
    simp only [startOf, l62Body, ckdBody]
    split <;> simp [sameDecoder]
  all_goals simp [startOf, nopBody, d44Body, ckaBody, cktBody, seekStart, bsrchStart, rdsecStart, sameDecoder]

theorem nibbleStepOf_decoder (i : Instr) (s : State) (h : i ≠ .rdsec) (h' : i ≠ .d62) : sameDecoder s (nibbleStepOf i s) := by
  have hr : sameDecoder s s := by simp [sameDecoder]
  cases i
  case rdsec => exact absurd rfl h
  case d62 => exact absurd rfl h'
  case nop | d44 | l62 | cka | ckd | ckt => exact hr
  case skip => exact onNext_keeps (P := sameDecoder s) hr (fun _ => hr) hr (fun _ _ => hr)
  case seekApro | seekAepi | seekDpro | seekDepi | seekSync =>
    exact seekStep_keeps hr (fun _ => hr) hr (fun _ _ => hr) (fun _ _ => hr)
  all_goals exact searchStep_keeps hr (fun _ => hr) hr (fun _ _ => hr) (fun _ _ => hr) (fun _ _ _ => hr)

/-- The acceptance of a command consumes no nibble (R263). -/
theorem startOf_stream (i : Instr) (s : State) : (startOf i s).stream = s.stream := by
  cases i
  case l62 | ckd =>
    simp only [startOf, l62Body, ckdBody]
    split <;> simp
  all_goals simp [startOf, nopBody, d44Body, ckaBody, cktBody, seekStart, bsrchStart, rdsecStart]

end Sys2Proof.Machine
end

