-- ==== Sys2Proof/Laws/Operands.lean ====
section
/-! SUPPORT. The register index space: which indices allow which access, and what an index reads after a write. -/

namespace Sys2Proof.Machine

theorem accessOf_command_iff (i : Nat) : accessOf i = .command ↔ i = 0x000 := by
  unfold accessOf
  (repeat' split) <;> simp_all

theorem accessOf_readWrite_iff (i : Nat) : accessOf i = .readWrite ↔ 0x004 ≤ i ∧ i ≤ 0x014 := by
  unfold accessOf
  (repeat' split) <;> simp <;> omega

theorem accessOf_reserved_iff (i : Nat) : accessOf i = .reserved ↔ 0x01E ≤ i ∧ i ≤ 0x0FF := by
  unfold accessOf
  (repeat' split) <;> simp <;> omega

/-- A read below PAYLOAD always has a value. -/
theorem readIndex_low (s : State) (i : Nat) (h : i ≤ 0x0FF) : ∃ b, readIndex s i = .ok b := by
  unfold readIndex
  split <;> first | exact ⟨_, rfl⟩ | skip
  rw [if_pos h]
  exact ⟨_, rfl⟩

theorem readIndex_reserved (s : State) (i : Nat) (lo : 0x01E ≤ i) (hi : i ≤ 0x0FF) : readIndex s i = .ok 0x00 := by
  unfold readIndex
  split <;> first | omega | skip
  rw [if_pos hi]

/-- A read of PAYLOAD[j] (R39, R253). -/
theorem readIndex_payload (s : State) (j : Nat) :
    readIndex s (0x100 + j) = match memoryRead s.payload (0x100 + j) with
      | some b => .ok b
      | none => .error (.payloadUnwritten (0x100 + j)) := by
  unfold readIndex
  split <;> first | omega | skip
  exact (if_neg (by omega)).trans (by cases memoryRead s.payload (0x100 + j) <;> rfl)

theorem readIndex_agenda (s : State) (events : List Event) (i : Nat) : readIndex { s with agenda := events } i = readIndex s i := by
  unfold readIndex
  rfl

/-- What every index reads after a register write. -/
theorem readIndex_writeRegister (s : State) (i k : Nat) (v : Byte) (lo : 0x004 ≤ i) (hi : i ≤ 0x014) :
    readIndex (writeRegister i v s) k = if k = i then .ok v else readIndex s k := by
  unfold readIndex
  split
  all_goals
    simp [statusByte, kindByte, d62ChkByte, invIdxLo, invIdxHi, writeRegister_opa, writeRegister_opb, writeRegister_opc,
      writeRegister_opd, writeRegister_cfgTrack, writeRegister_cfgApro0, writeRegister_cfgApro1, writeRegister_cfgApro2,
      writeRegister_cfgAepi0, writeRegister_cfgAepi1, writeRegister_cfgAepi2, writeRegister_cfgDpro0, writeRegister_cfgDpro1,
      writeRegister_cfgDpro2, writeRegister_cfgDepi0, writeRegister_cfgDepi1, writeRegister_cfgDepi2]
    first
    | (intro h; omega)
    | (split <;> simp_all <;> omega)

end Sys2Proof.Machine
end

