-- ==== Sys2Proof/Laws/PerInstr.lean ====
section
/-! SUPPORT. A law of every command as syntax, one lemma per constructor: its encoding is one well-formed byte, which decodes to it
alone and as a table word (R102, R104, R107). -/

namespace Sys2Proof.Laws

/-- The encoding of a command: one byte, well formed, decoded back as a byte sequence and as a table word. -/
def Encoding.Statement (i : Instr) : Prop :=
  (encode i).length = 1 ∧ (commandFields (encodeByte i)).wellFormed = true ∧ decode (encode i) = .ok (i, []) ∧
    decodeTableWord 8 (encodeByte i).toNat = some i

theorem Encoding.nop : Encoding.Statement .nop := ⟨rfl, rfl, rfl, rfl⟩

theorem Encoding.rdsec : Encoding.Statement .rdsec := ⟨rfl, rfl, rfl, rfl⟩

theorem Encoding.d44 : Encoding.Statement .d44 := ⟨rfl, rfl, rfl, rfl⟩

theorem Encoding.l62 : Encoding.Statement .l62 := ⟨rfl, rfl, rfl, rfl⟩

theorem Encoding.d62 : Encoding.Statement .d62 := ⟨rfl, rfl, rfl, rfl⟩

theorem Encoding.seekApro : Encoding.Statement .seekApro := ⟨rfl, rfl, rfl, rfl⟩

theorem Encoding.seekAepi : Encoding.Statement .seekAepi := ⟨rfl, rfl, rfl, rfl⟩

theorem Encoding.seekDpro : Encoding.Statement .seekDpro := ⟨rfl, rfl, rfl, rfl⟩

theorem Encoding.seekDepi : Encoding.Statement .seekDepi := ⟨rfl, rfl, rfl, rfl⟩

theorem Encoding.seekSync : Encoding.Statement .seekSync := ⟨rfl, rfl, rfl, rfl⟩

theorem Encoding.bsrchApro : Encoding.Statement .bsrchApro := ⟨rfl, rfl, rfl, rfl⟩

theorem Encoding.bsrchAepi : Encoding.Statement .bsrchAepi := ⟨rfl, rfl, rfl, rfl⟩

theorem Encoding.bsrchDpro : Encoding.Statement .bsrchDpro := ⟨rfl, rfl, rfl, rfl⟩

theorem Encoding.bsrchDepi : Encoding.Statement .bsrchDepi := ⟨rfl, rfl, rfl, rfl⟩

theorem Encoding.bsrchSync : Encoding.Statement .bsrchSync := ⟨rfl, rfl, rfl, rfl⟩

theorem Encoding.skip : Encoding.Statement .skip := ⟨rfl, rfl, rfl, rfl⟩

theorem Encoding.cka : Encoding.Statement .cka := ⟨rfl, rfl, rfl, rfl⟩

theorem Encoding.ckd : Encoding.Statement .ckd := ⟨rfl, rfl, rfl, rfl⟩

theorem Encoding.ckt : Encoding.Statement .ckt := ⟨rfl, rfl, rfl, rfl⟩

end Sys2Proof.Laws
end

