-- ==== Sys2Proof/Laws/Stream.lean ====
section
/-! SUPPORT. What a cursor delivers (R63, R64), and that a looping or an endless cursor delivers any number of bytes (R264). -/

namespace Sys2Proof.Machine

@[simp] theorem delivers_nil (c : Cursor) : c.delivers [] = some c := rfl

theorem delivers_cons {c d : Cursor} {b : Byte} (bytes : List Byte) (h : c.next = some (.nibble b, d)) :
    c.delivers (b :: bytes) = d.delivers bytes := by
  simp [Cursor.delivers, h]

/-- The one way a cursor delivers a first byte. -/
theorem delivers_cons_iff {c e : Cursor} {b : Byte} {bytes : List Byte} :
    c.delivers (b :: bytes) = some e ↔ ∃ d, c.next = some (.nibble b, d) ∧ d.delivers bytes = some e := by
  refine ⟨fun h => ?_, fun ⟨d, hd, h⟩ => (delivers_cons bytes hd).trans h⟩
  rw [Cursor.delivers.eq_2] at h
  split at h
  · rename_i first rest hc
    split at h
    · rename_i hb
      exact ⟨rest, hb ▸ hc, h⟩
    · cases h
  all_goals cases h

theorem delivers_append_iff {c e : Cursor} (xs ys : List Byte) :
    c.delivers (xs ++ ys) = some e ↔ ∃ d, c.delivers xs = some d ∧ d.delivers ys = some e := by
  induction xs generalizing c with
  | nil => simp
  | cons b xs ih =>
    rw [List.cons_append, delivers_cons_iff]
    simp only [ih, delivers_cons_iff]
    exact ⟨fun ⟨d, hd, f, hf, he⟩ => ⟨f, ⟨d, hd, hf⟩, he⟩, fun ⟨f, ⟨d, hd, hf⟩, he⟩ => ⟨d, hd, f, hf, he⟩⟩

/-- Listed bytes are delivered in their order. -/
theorem delivers_nibbles (bytes : List Byte) (more : List Offer) (tail : Tail) :
    Cursor.delivers { offers := nibbles bytes ++ more, tail := tail } bytes = some { offers := more, tail := tail } := by
  induction bytes with
  | nil => rfl
  | cons b bytes ih => exact (delivers_cons bytes rfl).trans ih

theorem taken_nibble {c d : Cursor} {b : Byte} (n : Nat) (h : c.next = some (.nibble b, d)) :
    c.taken (n + 1) = (b :: (d.taken n).1, (d.taken n).2) := by
  simp [Cursor.taken, h]

theorem taken_nothing {c d : Cursor} (n : Nat) (h : c.next = some (.nothing, d)) : c.taken (n + 1) = d.taken n := by
  simp [Cursor.taken, h]

theorem taken_waits {c : Cursor} (n : Nat) (h : c.next = none) : c.taken n = ([], c) := by
  cases n with
  | zero => rfl
  | succ n => simp [Cursor.taken, h]

/-- A cursor that keeps a property under which it always has a byte never ends, however many bytes are taken from it (R264). -/
theorem taken_unending {I : Cursor → Prop} {Q : Byte → Prop}
    (always : ∀ c, I c → ∃ b d, c.next = some (.nibble b, d) ∧ Q b ∧ I d) {c : Cursor} (h : I c) (n : Nat) :
    ¬ (c.taken n).2.ended ∧ ∀ b ∈ (c.taken n).1, Q b := by
  induction n generalizing c with
  | zero =>
    obtain ⟨b, d, hd, -, -⟩ := always c h
    exact ⟨fun he => by simp [Cursor.taken, Cursor.ended, hd] at he, by simp [Cursor.taken]⟩
  | succ n ih =>
    obtain ⟨b, d, hd, hb, hI⟩ := always c h
    rw [taken_nibble n hd]
    exact ⟨(ih hI).1, by simpa using ⟨hb, (ih hI).2⟩⟩

/-- A pattern with a byte that a sequence lacks does not end in it. -/
theorem endsAt_of_not_mem {p bytes : List Byte} {b : Byte} (hp : b ∈ p) (hb : b ∉ bytes) (m : Nat) :
    endsAt p bytes m = false := by
  have : lastK p.length (bytes.take m) ≠ p := fun h => by
    rw [← h] at hp
    exact hb (List.mem_of_mem_take (List.mem_of_mem_drop hp))
  simp [endsAt, this]

end Sys2Proof.Machine
end

