-- ==== Sys2Proof/Tests/Slice0.lean ====
section
/-! SUPPORT. The model's own tests: ill-formed command words, one decoded word per command written out from R102, R103 and R101, single
steps whose results stand in spec/95_test_vectors.md, and a witness for the hypotheses of every statement that has some. -/

namespace Sys2Proof.Tests

open Sys2Proof Sys2Proof.Machine

/-! ## Well-formedness (R104) -/

theorem test_ill_formed_reserved_bit :
    (CommandWord.mk 1 0 0x1).reservedClear = false ∧ (CommandWord.mk 1 0 0x1).wellFormed = false := by decide

theorem test_ill_formed_op : (CommandWord.mk 0 0 0xB).opDefined = false ∧ (CommandWord.mk 0 0 0xB).wellFormed = false := by decide

theorem test_ill_formed_msel_unused :
    (CommandWord.mk 0 1 0x1).mselUnusedClear = false ∧ (CommandWord.mk 0 1 0x1).wellFormed = false := by decide

theorem test_ill_formed_msel_reserved :
    (CommandWord.mk 0 5 0x5).mselDefined = false ∧ (CommandWord.mk 0 7 0x6).wellFormed = false := by decide

/-! ## Decoding: bit 7, then MSEL, then OP (R101 to R103) -/

theorem test_decode_nop : decodeByte 0b0_000_0000#8 = .ok .nop := rfl
theorem test_decode_rdsec : decodeByte 0b0_000_0001#8 = .ok .rdsec := rfl
theorem test_decode_d44 : decodeByte 0b0_000_0010#8 = .ok .d44 := rfl
theorem test_decode_l62 : decodeByte 0b0_000_0011#8 = .ok .l62 := rfl
theorem test_decode_d62 : decodeByte 0b0_000_0100#8 = .ok .d62 := rfl
theorem test_decode_seekApro : decodeByte 0b0_000_0101#8 = .ok .seekApro := rfl
theorem test_decode_seekAepi : decodeByte 0b0_001_0101#8 = .ok .seekAepi := rfl
theorem test_decode_seekDpro : decodeByte 0b0_010_0101#8 = .ok .seekDpro := rfl
theorem test_decode_seekDepi : decodeByte 0b0_011_0101#8 = .ok .seekDepi := rfl
theorem test_decode_seekSync : decodeByte 0b0_100_0101#8 = .ok .seekSync := rfl
theorem test_decode_bsrchApro : decodeByte 0b0_000_0110#8 = .ok .bsrchApro := rfl
theorem test_decode_bsrchAepi : decodeByte 0b0_001_0110#8 = .ok .bsrchAepi := rfl
theorem test_decode_bsrchDpro : decodeByte 0b0_010_0110#8 = .ok .bsrchDpro := rfl
theorem test_decode_bsrchDepi : decodeByte 0b0_011_0110#8 = .ok .bsrchDepi := rfl
theorem test_decode_bsrchSync : decodeByte 0b0_100_0110#8 = .ok .bsrchSync := rfl
theorem test_decode_skip : decodeByte 0b0_000_0111#8 = .ok .skip := rfl
theorem test_decode_cka : decodeByte 0b0_000_1000#8 = .ok .cka := rfl
theorem test_decode_ckd : decodeByte 0b0_000_1001#8 = .ok .ckd := rfl
theorem test_decode_ckt : decodeByte 0b0_000_1010#8 = .ok .ckt := rfl

/-- The bytes of V-CMD-2 to V-CMD-9, refused by name. -/
theorem test_decode_illegal :
    [0x0B#8, 0x0F, 0x81, 0x11, 0x55, 0x76, 0x57, 0xFF].map decodeByte =
      [.error .reservedOp, .error .reservedOp, .error .reservedBit, .error .mselNotZero, .error .reservedMsel,
        .error .reservedMsel, .error .mselNotZero, .error .reservedBit] := rfl

theorem test_decode_no_byte : decode [] = .error .noByte := rfl

theorem test_decode_table_word : decodeTableWord 8 0x46 = some .bsrchSync ∧ decodeTableWord 8 0x0B = none := by decide

/-! ## Single steps -/

/-- STATUS, KIND and RES after a step, as the vector tables give them. -/
def outcome (o : Host.Outcome State Fault Refusal) : Option (Byte × Nat × Byte) :=
  match o with
  | .next t => some (statusByte t, (kindCode t.kind).toNat, t.res)
  | .fault _ => none
  | .refused _ => none

/-- A state about to see the host's CMD write of a byte. -/
def issued (v : Byte) (s : State) : State := { s with agenda := [.write 0x000 v] }

/-- A state in which a command is running in a phase, with the offers the stream makes. -/
def running (i : Instr) (p : Phase) (offers : List Offer) : State :=
  { State.reset with cmd := encodeByte i, busy := true, phase := p, stream := { offers := offers, tail := .waits } }

/-- V-CMD-1. -/
theorem test_nop : outcome (step (issued 0x00 State.reset)) = some (0x06, 0, 0x00) := by decide

/-- V-CMD-5: MSEL 1 on RDSEC. -/
theorem test_illegal : outcome (step (issued 0x11 State.reset)) = some (0x32, 14, 0x00) := by decide

/-- V-D44-3. -/
theorem test_d44_even_bits : outcome (step (issued 0x02 { State.reset with opa := 0x55 })) = some (0x06, 0, 0xAA) := by decide

/-- V-D44-11: a pair that is not conformant. -/
theorem test_d44_non_conformant :
    outcome (step (issued 0x02 { State.reset with opa := 0x01, opb := 0x01 })) = some (0x06, 0, 0x03) := by decide

/-- V-L62-6. -/
theorem test_l62_symbol : outcome (step (issued 0x03 { State.reset with opa := 0xD6 })) = some (0x06, 0, 0x20) := by decide

/-- V-L62-17. -/
theorem test_l62_gap : outcome (step (issued 0x03 { State.reset with opa := 0x98 })) = some (0x32, 11, 0x00) := by decide

/-- V-D62-9d: the last main nibble D6 after zeros gives D62_CHK 20 and PAYLOAD[255] = 80. -/
theorem test_d62_last_nibble :
    outcome (step { running .d62 .xD62 [.nibble 0xD6] with d62Idx := 341 }) = some (0x06, 0, 0x20) ∧
    memoryRead (decodeNibble 0xD6 { running .d62 .xD62 [] with d62Idx := 341 }).payload 0x1FF = some 0x80 := by decide

/-- V-D62-11: the nibble 7F at index 86 is recorded and the running value 0F stays. -/
theorem test_d62_invalid_nibble :
    (match step { running .d62 .xD62 [.nibble 0x7F] with d62Idx := 86, d62Chk := 0x0F } with
      | .next t => some (t.invByte, invIdxHi t, invIdxLo t, t.d62Chk)
      | .fault _ => none
      | .refused _ => none) = some (0x7F, 0x80, 0x56, 0x0F) := by decide

/-- V-MM-2: the last byte of the match. -/
theorem test_seekApro :
    outcome (step { running .seekApro .xSeek [.nibble 0x96] with win := [0xD5, 0xD5, 0xAA] }) = some (0x06, 0, 0x00) := by decide

/-- V-MM-4: EOS. -/
theorem test_seekApro_eos :
    outcome (step { running .seekApro .xSeek [.eos] with win := [0xD5, 0xAA, 0x97] }) = some (0x32, 12, 0x00) := by decide

/-- V-MM-8: two bytes match, the third epilogue byte is not asked for. -/
theorem test_seekAepi :
    outcome (step { running .seekAepi .xSeek [.nibble 0xAA, .nibble 0xEB] with win := [0xDE] }) = some (0x06, 0, 0x00) := by decide

/-- V-MM-6. -/
theorem test_seekDpro :
    outcome (step { running .seekDpro .xSeek [.nibble 0xAD] with win := [0x96, 0xD5, 0xAA] }) = some (0x06, 0, 0x00) := by decide

/-- V-MM-9. -/
theorem test_seekDepi :
    outcome (step { running .seekDepi .xSeek [.nibble 0xAA] with win := [0xDE, 0xDE] }) = some (0x06, 0, 0x00) := by decide

/-- V-MM-7. -/
theorem test_seekSync :
    outcome (step { running .seekSync .xSeek [.nibble 0xFF] with win := [0x96] }) = some (0x06, 0, 0x00) := by decide

/-- V-MM-17: EOS inside the window. -/
theorem test_bsrchApro_eos :
    outcome (step { running .bsrchApro .xBsrch [.eos] with win := [0x96, 0x96, 0x96], wcnt := 5 }) = some (0x22, 10, 0x00) := by decide

/-- V-MM-10: RES is the count of nibbles. -/
theorem test_bsrchAepi :
    outcome (step { running .bsrchAepi .xBsrch [.nibble 0xAA] with win := [0x22, 0xDE], wcnt := 3 }) = some (0x06, 0, 0x04) := by decide

/-- V-MM-14: the last byte at nibble 20 is found. -/
theorem test_bsrchDpro_edge :
    outcome (step { running .bsrchDpro .xBsrch [.nibble 0xAD] with win := [0x96, 0xD5, 0xAA], wcnt := 19 }) =
      some (0x06, 0, 0x14) := by decide

/-- V-MM-15: at nibble 21 it is not. -/
theorem test_bsrchDpro_past_edge :
    outcome (step { running .bsrchDpro .xBsrch [.nibble 0xAA, .nibble 0xAD] with win := [0x96, 0x96, 0xD5], wcnt := 19 }) =
      some (0x32, 12, 0x14) := by decide

/-- V-MM-16. -/
theorem test_bsrchDepi :
    outcome (step { running .bsrchDepi .xBsrch [.nibble 0xAA] with win := [0xDE, 0xDE], wcnt := 2 }) = some (0x06, 0, 0x03) := by decide

/-- V-MM-12. -/
theorem test_bsrchSync_edge :
    outcome (step { running .bsrchSync .xBsrch [.nibble 0xFF] with win := [0x96], wcnt := 19 }) = some (0x06, 0, 0x14) := by decide

/-- V-MM-21: P_WINDOW = 1. -/
theorem test_bsrchSync_window :
    outcome (step { running .bsrchSync .xBsrch [.nibble 0x96] with window := 1 }) = some (0x32, 12, 0x01) := by decide

/-- V-MM-18. -/
theorem test_skip : outcome (step (running .skip .xSkip [.nibble 0xEB, .nibble 0x00])) = some (0x06, 0, 0xEB) := by decide

/-- V-MM-20. -/
theorem test_skip_eos : outcome (step (running .skip .xSkip [.eos])) = some (0x22, 10, 0x00) := by decide

/-- V-CV-2. -/
theorem test_cka :
    outcome (step (issued 0x08 { State.reset with opa := 0xFE, opb := 0x11, opc := 0x05, opd := 0xEA })) =
      some (0x06, 0, 0xEA) := by decide

/-- V-CV-3. -/
theorem test_cka_mismatch :
    outcome (step (issued 0x08 { State.reset with opa := 0xFE, opb := 0x11, opc := 0x05, opd := 0xEB })) =
      some (0x32, 13, 0xEA) := by decide

/-- V-CV-6. -/
theorem test_ckd_mismatch :
    outcome (step (issued 0x09 { State.reset with d62Chk := 0x3F, opa := 0xFE })) = some (0x32, 13, 0x3E) := by decide

/-- V-CV-7. -/
theorem test_ckd_invalid :
    outcome (step (issued 0x09 { State.reset with d62Chk := 0x3F, opa := 0xAA })) = some (0x32, 11, 0x00) := by decide

/-- V-CV-9. -/
theorem test_ckt : outcome (step (issued 0x0A { State.reset with cfgTrack := 0x11, opa := 0x11 })) = some (0x06, 0, 0x00) := by decide

/-- V-CV-10. -/
theorem test_ckt_mismatch :
    outcome (step (issued 0x0A { State.reset with cfgTrack := 0x11, opa := 0x12 })) = some (0x32, 13, 0x03) := by decide

/-- V-RD-1, at its eleventh nibble: TRACK_MISMATCH. -/
theorem test_rdsec_track_mismatch :
    outcome (step { running .rdsec .aSec [.nibble 0xAF] with
      hi := 0xAA, hiHeld := true, afVol := 0xFE, afTrk := 0x12, cfgTrack := 0x11 }) = some (0x12, 1, 0x00) := by decide

/-- V-RD-0, at its last nibble: RES is the sector number. -/
theorem test_rdsec_success :
    outcome (step { running .rdsec .dEpi3 [.nibble 0xEB] with afSec := 0x05 }) = some (0x06, 0, 0x05) := by decide

/-- Program P6: a write while busy is ignored and sets WBUSY. -/
theorem test_write_while_busy :
    outcome (step { running .seekApro .xSeek [] with agenda := [.write 0x004 0x55] }) = some (0x09, 0, 0x00) ∧
    readIndex (ignoreWrite (running .seekApro .xSeek [])) 0x004 = .ok 0x00 := ⟨by decide, rfl⟩

/-- The first step after reset with a placed table word runs it: SEEK_APRO becomes busy (P6: STATUS 01). -/
theorem test_placed_word_runs : outcome (step (State.reset.withFetchWord 8 0x05)) = some (0x01, 0, 0x00) := by decide

/-! ## Witnesses: the hypotheses of every statement that has some can be met -/

/-- A reset pending while a command runs. -/
def resetPending : State := { running .rdsec .dData [.nibble 0x96] with agenda := [.reset] }

theorem witness_ResetEventRestoresTheRegisters : resetPending.agenda = .reset :: [] ∧ resetPending.busy = true := ⟨rfl, rfl⟩

/-- A state whose first and last PAYLOAD entries have been written. -/
def twoEntries : State := { State.reset with payload := [(0x100, 0xA1), (0x1FF, 0xA2)] }

theorem witness_RegisterIndexMap_payload :
    memoryRead twoEntries.payload (0x100 + 0) = some 0xA1 ∧ memoryRead twoEntries.payload (0x100 + 255) = some 0xA2 := by decide

theorem witness_RegisterIndexMap_access :
    [0x000, 0x001, 0x003, 0x004, 0x014, 0x015, 0x01D, 0x01E, 0x0FF, 0x100, 0x1FF].map accessOf =
      [.command, .readOnly, .readOnly, .readWrite, .readWrite, .readOnly, .readOnly, .reserved, .reserved, .readOnly,
        .readOnly] := by decide

theorem witness_SeverityOfEachKind :
    [Kind.ok, .trackMismatch, .dataEpilogueNotFound, .addrPrologueNotFound, .streamExhausted, .invalidEncodedByte,
      .illegalCommand].map (fun k => (kindCode k).toNat) = [0, 1, 8, 9, 10, 11, 14] := by decide

/-- An idle state with one host event to come. -/
def idleBefore (e : Event) : State := { State.reset with agenda := [e] }

/-- A busy state with one host event to come. -/
def busyBefore (e : Event) : State := { running .seekApro .xSeek [] with agenda := [e] }

theorem witness_HostAccessRule_readOnly :
    (idleBefore (.write 0x1FF 0x55)).agenda = .write 0x1FF 0x55 :: [] ∧ 0x1FF < 0x200 ∧ accessOf 0x1FF = .readOnly ∧
    (busyBefore (.write 0x0FF 0x55)).agenda = .write 0x0FF 0x55 :: [] ∧ accessOf 0x0FF = .reserved := by decide

theorem witness_HostAccessRule_busy :
    (busyBefore (.write 0x000 0x01)).agenda = .write 0x000 0x01 :: [] ∧ accessOf 0x000 = .command ∧
    (busyBefore (.write 0x014 0x01)).agenda = .write 0x014 0x01 :: [] ∧ accessOf 0x014 = .readWrite ∧
    (busyBefore (.write 0x014 0x01)).busy = true := by decide

theorem witness_HostAccessRule_read :
    (idleBefore (.read 0x01D)).agenda = .read 0x01D :: [] ∧ readIndex (idleBefore (.read 0x01D)) 0x01D = .ok 0x00 ∧
    readIndex twoEntries 0x1FF = .ok 0xA2 := ⟨rfl, rfl, rfl⟩

theorem witness_HostAccessesThatStop :
    (idleBefore (.write 0x200 0x55)).agenda = .write 0x200 0x55 :: [] ∧ (idleBefore (.read 0x200)).agenda = .read 0x200 :: [] ∧
    (idleBefore (.read 0x100)).agenda = .read (0x100 + 0) :: [] ∧ memoryRead (idleBefore (.read 0x100)).payload (0x100 + 0) = none ∧
    (idleBefore (.read 0x1FF)).agenda = .read (0x100 + 255) :: [] ∧
    memoryRead (idleBefore (.read 0x1FF)).payload (0x100 + 255) = none := by decide

theorem witness_NothingElseStopsAStep :
    step (idleBefore (.read 0x100)) = .fault (.payloadUnwritten 0x100) ∧
    step (idleBefore (.write 0x200 0x00)) = .refused (.indexOutsideSpace 0x200) := ⟨rfl, rfl⟩

theorem witness_IdleWriteStoresTheByte :
    (idleBefore (.write 0x004 0xC3)).agenda = .write 0x004 0xC3 :: [] ∧ (idleBefore (.write 0x004 0xC3)).busy = false ∧
    accessOf 0x004 = .readWrite ∧ (idleBefore (.write 0x014 0xC3)).agenda = .write 0x014 0xC3 :: [] ∧
    accessOf 0x014 = .readWrite := by decide

theorem witness_WbusyRule_set :
    ∃ t, step (busyBefore (.write 0x004 0x55)) = .next t ∧ (busyBefore (.write 0x004 0x55)).busy = true ∧
      (busyBefore (.write 0x004 0x55)).wbusy = false ∧ t.wbusy = true ∧ accessOf 0x004 = .readWrite := ⟨_, rfl, rfl, rfl, rfl, rfl⟩

theorem witness_WbusyRule_cleared :
    ∃ t, step { idleBefore (.write 0x000 0x00) with wbusy := true } = .next t ∧ t.wbusy = false := ⟨_, rfl, rfl⟩

theorem witness_WbusyRule_cleared_by_reset :
    ∃ t, step { idleBefore .reset with wbusy := true } = .next t ∧ t.wbusy = false := ⟨_, rfl, rfl⟩

theorem witness_DoneFallsOnlyAtAcceptanceOrReset_falls :
    ∃ t, step { idleBefore (.write 0x000 0x07) with done := true } = .next t ∧ t.doneOutput = false := ⟨_, rfl, rfl⟩

theorem witness_DoneFallsOnlyAtAcceptanceOrReset_read :
    ∃ t, step { idleBefore (.read 0x001) with done := true } = .next t ∧ t.doneOutput = true := ⟨_, rfl, rfl⟩

theorem witness_InputsChangeOnlyByTheHost :
    ∃ t, step (idleBefore (.write 0x008 0x11)) = .next t ∧ accessOf 0x008 = .readWrite ∧
      readIndex t 0x008 = .ok 0x11 ∧ readIndex (idleBefore (.write 0x008 0x11)) 0x008 = .ok 0x00 := ⟨_, rfl, rfl, rfl, rfl⟩

theorem witness_StreamOnlyAdvances :
    ∃ t, step (running .skip .xSkip [.nibble 0xEB, .eos]) = .next t ∧
      t.stream = { offers := [.eos], tail := .waits } ∧
      eventOf (running .skip .xSkip [.nibble 0xEB, .eos]) = .turn := ⟨_, rfl, rfl, rfl⟩

/-- The connection of a looping track to a busy block. -/
theorem witness_StreamOnlyAdvances_connect :
    { running .skip .xSkip [] with agenda := [.connect { offers := [], tail := .loops 0xFF [0x96] }] }.agenda =
      .connect { offers := [], tail := .loops 0xFF [0x96] } :: [] := rfl

theorem witness_EachCommandWritesOnlyItsRegisters :
    ∃ t, exec .cka State.reset = .next t ∧ Instr.cka ≠ .rdsec ∧ Instr.cka ≠ .d62 ∧ Instr.cka.streaming = false :=
  ⟨_, rfl, by decide, by decide, rfl⟩

/-- A reset of a block whose PAYLOAD[0] has never been written. -/
theorem witness_PayloadChangesOnlyByItsNibble_reset :
    eventOf (idleBefore .reset) = .reset ∧ memoryRead (idleBefore .reset).payload 0x100 = none ∧
    ∃ t, step (idleBefore .reset) = .next t ∧ memoryRead t.payload 0x100 = none := ⟨rfl, rfl, _, rfl, rfl⟩

theorem witness_PayloadChangesOnlyByItsNibble :
    ∃ t, step { running .d62 .xD62 [.nibble 0x97] with d62Idx := 86 } = .next t ∧
      memoryRead t.payload 0x100 = some 0x04 ∧ memoryRead State.reset.payload 0x100 = none := ⟨_, rfl, by decide, rfl⟩

theorem witness_StepRunsTheDecodedCommand_issue :
    (idleBefore (.write 0x000 0x46)).agenda = .write 0x000 0x46 :: [] ∧ (idleBefore (.write 0x000 0x46)).busy = false ∧
    decodeByte 0x46 = .ok .bsrchSync := ⟨rfl, rfl, rfl⟩

theorem witness_StepRunsTheDecodedCommand_turn :
    (running .rdsec .dEpi [.eos]).agenda = [] ∧ runningIn .rdsec (running .rdsec .dEpi [.eos]) = true ∧
    { running .rdsec .dEpi [.eos] with agenda := [.turn] }.agenda = .turn :: [] ∧
    runningIn .rdsec { running .rdsec .dEpi [.eos] with agenda := [.turn] } = true := by decide

theorem witness_StepRunsTheDecodedCommand_placed : decodeTableWord 8 0x0A = some .ckt ∧ decodeTableWord 0 0 = some .nop := by decide

theorem witness_StepRunsTheDecodedCommand_idle : State.reset.agenda = [] ∧ runningCommand State.reset = none := ⟨rfl, rfl⟩

theorem witness_RunningCommandWaitsForAnOffer :
    runningIn .d62 (running .d62 .xD62 []) = true ∧ (running .d62 .xD62 []).stream.next = none ∧
    runningIn .d62 (running .d62 .xD62 [.nothing]) = true ∧ (running .d62 .xD62 [.nothing]).stream.next = some (.nothing, { offers := [], tail := .waits }) := by decide

theorem witness_NopAndIllegalCommands :
    (idleBefore (.write 0x000 0x0B)).agenda = .write 0x000 0x0B :: [] ∧ (idleBefore (.write 0x000 0x0B)).busy = false ∧
    decodeByte 0x0B = .error .reservedOp ∧ decodeByte 0x55 = .error .reservedMsel ∧ decodeByte 0x45 = .ok .seekSync ∧
    State.reset.busy = false := ⟨rfl, rfl, rfl, rfl, rfl, rfl⟩

theorem witness_AcceptanceWrites :
    State.reset.busy = false ∧ Instr.skip.streaming = true ∧ Instr.ckt.streaming = false := ⟨rfl, rfl, rfl⟩

theorem witness_StreamingCommandsStart : { State.reset with wbusy := true, done := true }.busy = false := rfl

theorem witness_IssueWhileBusyIsIgnored :
    (running .seekApro .xSeek []).busy = true ∧ runningIn .nop (running .seekApro .xSeek []) = false ∧
    runningIn .seekAepi (running .seekApro .xSeek []) = false := by decide

theorem witness_D44BitByBit : ∀ k < 4, (0x00#8).getLsbD (2 * k) = (0xAA#8).getLsbD (2 * k) := by decide

theorem witness_D44OnConformantPairs : conformant44 0xAA 0xAA = true ∧ conformant44 0xFF 0xFE = true := by decide

/-- Two lists of running values that differ in bits 5:4 of the value 84 only. -/
theorem witness_AuxiliaryEdge :
    ((List.replicate 342 (0 : Sym)).set 84 0x30).getD 84 0 ≠ (List.replicate 342 (0 : Sym)).getD 84 0 ∧
    (((List.replicate 342 (0 : Sym)).set 84 0x30).getD 84 0).extractLsb' 0 4 =
      ((List.replicate 342 (0 : Sym)).getD 84 0).extractLsb' 0 4 ∧
    ∀ k, k ≠ 84 → ((List.replicate 342 (0 : Sym)).set 84 0x30).getD k 0 = (List.replicate 342 (0 : Sym)).getD k 0 := by
  refine ⟨by decide, by decide, fun k hk => ?_⟩
  rw [List.getD_eq_getElem?_getD, List.getD_eq_getElem?_getD, List.getElem?_set_ne (Ne.symm hk)]

theorem witness_Decode62InvertsTheConformantEncoder : (List.replicate 256 (0xFF : Byte)).length = 256 :=
  List.length_replicate

theorem witness_D44Completes : { State.reset with opa := 0xFF, opb := 0xFE }.busy = false := rfl

theorem witness_L62Completes :
    State.reset.busy = false ∧ alphabet[(0 : Sym).toNat]? = some { State.reset with opa := 0x96 }.opa ∧
    alphabet[(63 : Sym).toNat]? = some { State.reset with opa := 0xFF }.opa ∧
    { State.reset with opa := 0xAA }.opa ∉ alphabet := by decide

/-- A decoder about to take the data nibble i. -/
def decoderAt (i : Idx) (inv : Bool) (n : Byte) : State :=
  { running .d62 .xD62 [.nibble n] with d62Idx := i, inv := inv, invIdx := if inv then 1 else 0 }

theorem witness_DecodeNibbleWrites :
    [0, 85, 86, 341].map (fun i => (decoderAt i false 0x96).d62Idx.toNat) = [0, 85, 86, 341] ∧
    (decoderAt 85 true 0x00).inv = true ∧ l62 0x96 ≠ none ∧ (decoderAt 86 false 0x00).inv = false ∧ l62 0x00 = none := by decide

theorem witness_D62ConsumesANibble :
    runningIn .d62 (decoderAt 340 false 0x96) = true ∧ (decoderAt 340 false 0x96).d62Idx.toNat < 341 ∧
    runningIn .d62 (decoderAt 341 false 0xAA) = true ∧ (decoderAt 341 false 0xAA).d62Idx.toNat = 341 ∧
    (decoderAt 341 false 0xAA).stream.next = some (.nibble 0xAA, { offers := [], tail := .waits }) := by decide

/-- An idle state about to see the issue of a command, with a stream. -/
def issuingState (i : Instr) (offers : List Offer) : State :=
  { State.reset with agenda := [.write 0x000 (encodeByte i)], stream := { offers := offers, tail := .waits } }

/-- 342 nibbles of the value 0: the payload of zeros (V-D62-1). -/
def zeros : List Byte := List.replicate 342 0x96

theorem witness_D62ComputesDecode62 :
    issuing .d62 (issuingState .d62 (nibbles zeros ++ [])) ∧ zeros.length = 342 ∧
    (issuingState .d62 (nibbles zeros ++ [])).stream.delivers zeros = some { offers := [], tail := .waits } ∧
    issuing .d62 (issuingState .d62 [.nibble 0x96, .eos]) ∧ [(0x96 : Byte)].length < 342 ∧
    (issuingState .d62 [.nibble 0x96, .eos]).stream.delivers [0x96] = some { offers := [.eos], tail := .waits } ∧
    Cursor.ended { offers := [.eos], tail := .waits } :=
  ⟨⟨rfl, rfl⟩, List.length_replicate, delivers_nibbles zeros [] .waits, ⟨rfl, rfl⟩, by decide, rfl, rfl⟩

theorem witness_SeekConsumesANibble :
    runningIn (seekOf .sync) (running .seekSync .xSeek [.nibble 0xFF]) = true ∧
    (running .seekSync .xSeek [.nibble 0xFF]).stream.next = some (.nibble 0xFF, { offers := [], tail := .waits }) ∧
    runningIn (seekOf .apro) (running .seekApro .xSeek [.eos]) = true ∧
    (running .seekApro .xSeek [.eos]).stream.next = some (.eos, { offers := [.eos], tail := .waits }) := by decide

/-- No pattern ends in a sequence if none ends at a place within it. -/
theorem no_end_of_bounded {p bytes : List Byte} (h : ∀ m < bytes.length + 1, endsAt p bytes m = false) :
    ∀ m, endsAt p bytes m = false := by
  intro m
  by_cases hm : m < bytes.length + 1
  · exact h m hm
  · have : ¬ m ≤ bytes.length := by omega
    simp [endsAt, this]

theorem witness_SeekFindsTheFirstOccurrence_found :
    issuing (seekOf .apro) (issuingState .seekApro (nibbles [0xD5, 0xD5, 0xAA, 0x96])) ∧
    (issuingState .seekApro (nibbles [0xD5, 0xD5, 0xAA, 0x96])).stream.delivers [0xD5, 0xD5, 0xAA, 0x96] =
      some { offers := [], tail := .waits } ∧
    firstEnd (patternBytes .apro (issuingState .seekApro [])) [0xD5, 0xD5, 0xAA, 0x96] 4 :=
  ⟨⟨rfl, rfl⟩, rfl, by decide, by decide⟩

theorem witness_SeekFindsTheFirstOccurrence_eos :
    issuing (seekOf .apro) (issuingState .seekApro [.nibble 0xD5, .nibble 0xAA, .nibble 0x97, .eos]) ∧
    (issuingState .seekApro [.nibble 0xD5, .nibble 0xAA, .nibble 0x97, .eos]).stream.delivers [0xD5, 0xAA, 0x97] =
      some { offers := [.eos], tail := .waits } ∧
    Cursor.ended { offers := [.eos], tail := .waits } ∧
    ∀ m, endsAt (patternBytes .apro (issuingState .seekApro [])) [0xD5, 0xAA, 0x97] m = false :=
  ⟨⟨rfl, rfl⟩, rfl, rfl, no_end_of_bounded (by decide)⟩

/-- A stream that loops over a track of two bytes, neither of them in an address prologue. -/
def looping : Cursor := { offers := [], tail := .loops 0xFF [0x97] }

/-- Two laps of it and a byte more. -/
theorem witness_SeekFindsTheFirstOccurrence_endless :
    looping.delivers [0xFF, 0x97, 0xFF, 0x97, 0xFF] = some { offers := nibbles [0x97], tail := .loops 0xFF [0x97] } ∧
    ∀ m, endsAt (patternBytes .apro State.reset) [0xFF, 0x97, 0xFF, 0x97, 0xFF] m = false :=
  ⟨rfl, no_end_of_bounded (by decide)⟩

theorem witness_EndlessSearchNeverEnds :
    issuing (seekOf .apro) { issuingState .seekApro [] with stream := looping } ∧
    issuing .rdsec { issuingState .rdsec [] with stream := looping } ∧
    endlessWithout (patternBytes .apro State.reset) looping := by
  refine ⟨⟨rfl, rfl⟩, ⟨rfl, rfl⟩, fun n => ?_⟩
  have h := taken_unending (Q := fun b => b ≠ 0xD5)
    (I := fun c => c = looping ∨ c = { looping with offers := nibbles [0x97] })
    (fun c hc => by
      rcases hc with rfl | rfl
      · exact ⟨_, _, rfl, by decide, .inr rfl⟩
      · exact ⟨_, _, rfl, by decide, .inl rfl⟩) (.inl rfl) n
  exact ⟨h.1, endsAt_of_not_mem (b := 0xD5) (by decide) fun hm => h.2 _ hm rfl⟩

/-- R264: after the last byte of a looping track its first comes again. -/
theorem test_looping_stream :
    ∃ t, step (running .skip .xSkip []) = .next (running .skip .xSkip []) ∧
      step { running .skip .xSkip [] with stream := looping } = .next t ∧ t.res = 0xFF ∧
      t.stream.next = some (.nibble 0x97, looping) := ⟨_, rfl, rfl, rfl, rfl⟩

theorem witness_BsrchConsumesANibble :
    runningIn (bsrchOf .aepi) (running .bsrchAepi .xBsrch [.nibble 0xAA]) = true ∧
    (running .bsrchAepi .xBsrch [.nibble 0xAA]).stream.next = some (.nibble 0xAA, { offers := [], tail := .waits }) := by decide

/-- The pattern's last byte at nibble 20, the last place the window allows (V-MM-12). -/
theorem witness_BsrchSearchesTheWindow_found :
    issuing (bsrchOf .sync) (issuingState .bsrchSync (nibbles (List.replicate 19 0x96 ++ [0xFF]))) ∧
    (issuingState .bsrchSync []).window ≠ 0 ∧
    (issuingState .bsrchSync (nibbles (List.replicate 19 0x96 ++ [0xFF]))).stream.delivers (List.replicate 19 0x96 ++ [0xFF]) =
      some { offers := [], tail := .waits } ∧
    firstEnd (patternBytes .sync (issuingState .bsrchSync [])) (List.replicate 19 0x96 ++ [0xFF]) 20 ∧
    20 ≤ (issuingState .bsrchSync []).window.toNat :=
  ⟨⟨rfl, rfl⟩, by decide, rfl, ⟨by decide, by decide⟩, by decide⟩

/-- The same at nibble 21 (V-MM-13). -/
theorem witness_BsrchSearchesTheWindow_missed :
    (issuingState .bsrchSync (nibbles (List.replicate 20 0x96 ++ [0xFF]))).stream.delivers (List.replicate 20 0x96) =
      some { offers := nibbles [0xFF], tail := .waits } ∧
    (List.replicate 20 (0x96 : Byte)).length = (issuingState .bsrchSync []).window.toNat ∧
    ∀ m, endsAt (patternBytes .sync (issuingState .bsrchSync [])) (List.replicate 20 0x96) m = false :=
  ⟨rfl, by decide, no_end_of_bounded (by decide)⟩

/-- EOS with 19 nibbles of the window used. -/
theorem witness_BsrchSearchesTheWindow_eos :
    (issuingState .bsrchSync (nibbles (List.replicate 19 0x96) ++ [.eos])).stream.delivers (List.replicate 19 0x96) =
      some { offers := [.eos], tail := .waits } ∧
    (List.replicate 19 (0x96 : Byte)).length < (issuingState .bsrchSync []).window.toNat ∧
    ∀ m, endsAt (patternBytes .sync (issuingState .bsrchSync [])) (List.replicate 19 0x96) m = false :=
  ⟨rfl, by decide, no_end_of_bounded (by decide)⟩

theorem witness_SkipConsumesOneNibble :
    State.reset.busy = false ∧ runningIn .skip (running .skip .xSkip [.nibble 0xEB]) = true ∧
    (running .skip .xSkip [.nibble 0xEB]).stream.next = some (.nibble 0xEB, { offers := [], tail := .waits }) ∧
    runningIn .skip (running .skip .xSkip [.eos]) = true ∧ (running .skip .xSkip [.eos]).stream.next = some (.eos, { offers := [.eos], tail := .waits }) := by decide

/-- Every phase of RDSEC, with a nibble or EOS on offer, is one it runs in. -/
theorem witness_rdsec_phases :
    ∀ p ∈ phasesOf .rdsec, runningIn .rdsec (running .rdsec p [.nibble 0x96]) = true ∧
      (running .rdsec p [.nibble 0x96]).phase = p ∧ (running .rdsec p [.nibble 0x96]).stream.next = some (.nibble 0x96, { offers := [], tail := .waits }) ∧
      runningIn .rdsec (running .rdsec p [.eos]) = true ∧ (running .rdsec p [.eos]).stream.next = some (.eos, { offers := [.eos], tail := .waits }) := by decide

theorem witness_RdsecSeeksTheAddressPrologue :
    runningIn .rdsec (running .rdsec .aPro [.nibble 0xD5]) = true ∧ (running .rdsec .aPro [.nibble 0xD5]).phase = .aPro := by decide

/-- RDSEC with the first nibble of a pair in HI. -/
def pairHeld (p : Phase) (hi track expected : Byte) (lo : Byte) : State :=
  { running .rdsec p [.nibble lo] with hi := hi, hiHeld := true, afTrk := track, cfgTrack := expected }

theorem witness_RdsecReadsTheFieldPairs :
    (running .rdsec .aVol [.nibble 0xFF]).hiHeld = false ∧ (pairHeld .aVol 0xFF 0 0 0xFE).hiHeld = true ∧
    (pairHeld .aTrk 0xFF 0 0 0xFE).phase = .aTrk ∧
    (pairHeld .aSec 0xAA 0x11 0x11 0xAF).afTrk = (pairHeld .aSec 0xAA 0x11 0x11 0xAF).cfgTrack ∧
    (pairHeld .aSec 0xAA 0x12 0x11 0xAF).afTrk ≠ (pairHeld .aSec 0xAA 0x12 0x11 0xAF).cfgTrack ∧
    runningIn .rdsec (pairHeld .aSec 0xAA 0x12 0x11 0xAF) = true := by decide

/-- The checksum pair of V-RD-0 (EA) and of V-RD-2 (00). -/
theorem witness_RdsecChecksTheAddress :
    runningIn .rdsec (pairHeld .aChk 0xFF 0x11 0x11 0xEA) = true ∧ (pairHeld .aChk 0xFF 0x11 0x11 0xEA).hiHeld = true ∧
    (running .rdsec .aChk [.nibble 0xFF]).hiHeld = false ∧ d44 0xFF 0xEA = 0xFE ^^^ 0x11 ^^^ 0x05 ∧
    d44 0xAA 0xAA ≠ 0xFE ^^^ 0x11 ^^^ 0x05 := by decide

theorem witness_RdsecSeeksEpilogueAndSync :
    (running .rdsec .aEpi [.nibble 0xDE]).phase = .aEpi ∧ (running .rdsec .aEpi3 [.nibble 0xEB]).phase = .aEpi3 ∧
    (running .rdsec .dSync [.nibble 0xFF]).phase = .dSync ∧ runningIn .rdsec (running .rdsec .dSync [.nibble 0xFF]) = true := by decide

theorem witness_RdsecSeeksTheDataPrologue :
    runningIn .rdsec (running .rdsec .dPro [.nibble 0xAD]) = true ∧ (running .rdsec .dPro [.nibble 0xAD]).phase = .dPro := by decide

/-- RDSEC in its decode, about to take data nibble i. -/
def dataAt (i : Idx) (n : Byte) : State := { running .rdsec .dData [.nibble n] with d62Idx := i }

theorem witness_RdsecDecodesTheData :
    runningIn .rdsec (dataAt 340 0x96) = true ∧ (dataAt 340 0x96).d62Idx.toNat < 341 ∧ (dataAt 341 0x96).d62Idx.toNat = 341 ∧
    (decodeNibble 0x96 (dataAt 341 0x96)).inv = false ∧ (decodeNibble 0xAA (dataAt 341 0xAA)).inv = true := by decide

theorem witness_RdsecChecksTheTrailingNibble :
    runningIn .rdsec (running .rdsec .dChk [.nibble 0x00]) = true ∧ l62 0x00 = none ∧
    (running .rdsec .dChk [.nibble 0x00]).trailingInvalid = .dataChecksumMismatch ∧
    { running .rdsec .dChk [.nibble 0x00] with trailingInvalid := .corruptSectorData }.trailingInvalid = .corruptSectorData ∧
    l62 0x96 = some 0 ∧ (running .rdsec .dChk [.nibble 0x96]).d62Chk = 0 ∧ l62 0xFE = some 62 ∧
    (running .rdsec .dChk [.nibble 0xFE]).d62Chk ≠ 62 := by decide

theorem witness_RdsecEndsTheSector :
    (running .rdsec .dEpi [.nibble 0xAA]).phase = .dEpi ∧ (running .rdsec .dEpi3 [.nibble 0xEB]).phase = .dEpi3 ∧
    runningIn .rdsec (running .rdsec .dEpi3 [.nibble 0xEB]) = true := by decide

theorem witness_EndOfStreamExhausts :
    runningIn .rdsec (running .rdsec .dData [.eos]) = true ∧ (running .rdsec .dData [.eos]).stream.next = some (.eos, { offers := [.eos], tail := .waits }) ∧
    (∀ p, Instr.rdsec ≠ seekOf p) ∧ (running .rdsec .dData [.eos]).phase ≠ .aPro ∧
    runningIn .bsrchSync (running .bsrchSync .xBsrch [.eos]) = true ∧ (∀ p, Instr.bsrchSync ≠ seekOf p) := by
  refine ⟨by decide, by decide, fun p => ?_, by decide, by decide, fun p => ?_⟩ <;> cases p <;> decide

/-- A whole sector on track 0x11: V-RD-0's address field and gap, with the payload of zeros. -/
def sectorNibbles : List Byte :=
  [0xFF, 0xFF, 0xD5, 0xAA, 0x96] ++ [0xFF, 0xFE, 0xAA, 0xBB, 0xAA, 0xAF, 0xFF, 0xEA] ++ [0xDE, 0xAA] ++ [0xEB] ++
    [0xFF] ++ [0xFF, 0xFF, 0xFF, 0xFF, 0xD5, 0xAA, 0xAD] ++ zeros ++ [0x96] ++ [0xDE, 0xAA] ++ [0xEB]

/-- RDSEC about to be issued with it on the stream. -/
def sectorState : State := { issuingState .rdsec (nibbles sectorNibbles ++ [.eos]) with cfgTrack := 0x11 }

theorem witness_RdsecReadsASector :
    issuing .rdsec sectorState ∧ sectorState.stream.delivers sectorNibbles = some { offers := [.eos], tail := .waits } ∧
    firstEnd (patternBytes .apro sectorState) [0xFF, 0xFF, 0xD5, 0xAA, 0x96] 5 ∧
    d44 0xAA 0xBB = sectorState.cfgTrack ∧ d44 0xFF 0xEA = d44 0xFF 0xFE ^^^ d44 0xAA 0xBB ^^^ d44 0xAA 0xAF ∧
    firstEnd (patternBytes .aepi sectorState) [0xDE, 0xAA] 2 ∧ 2 ≤ sectorState.window.toNat ∧
    firstEnd (patternBytes .sync sectorState) [0xFF] 1 ∧ 1 ≤ sectorState.window.toNat ∧
    firstEnd (patternBytes .dpro sectorState) [0xFF, 0xFF, 0xFF, 0xFF, 0xD5, 0xAA, 0xAD] 7 ∧ 7 ≤ sectorState.window.toNat ∧
    zeros.length = 342 ∧ allSymbols zeros ∧ l62 0x96 = some 0 ∧ (0 : Sym) = (decode62 zeros).checksum ∧
    firstEnd (patternBytes .depi sectorState) [0xDE, 0xAA] 2 := by
  refine ⟨⟨rfl, rfl⟩, delivers_nibbles sectorNibbles [.eos] .waits, ⟨by decide, by decide⟩, by decide, by decide, ⟨by decide, by decide⟩, by decide, ⟨by decide, by decide⟩,
    by decide, ⟨by decide, by decide⟩, by decide, List.length_replicate, ?_, by decide, by decide +kernel, ⟨by decide, by decide⟩⟩
  unfold allSymbols
  decide +kernel

theorem witness_CkaCompletes :
    { State.reset with opa := 0xFE, opb := 0x11, opc := 0x05, opd := 0xEA }.busy = false := rfl

theorem witness_CkdCompletes :
    State.reset.busy = false ∧ { State.reset with opa := 0xD5 }.opa ∉ alphabet ∧
    alphabet[(62 : Sym).toNat]? = some { State.reset with opa := 0xFE }.opa := by decide

theorem witness_CktCompletes : { State.reset with opa := 0x80 }.busy = false := rfl

/-- A running command whose next step is a completion. -/
theorem witness_StepKeepsTheInvariant :
    Inv (running .skip .xSkip [.nibble 0xEB]) ∧ ∃ t, step (running .skip .xSkip [.nibble 0xEB]) = .next t := by
  refine ⟨⟨?_, ?_, ⟨rfl, rfl⟩, ?_, ?_⟩, _, rfl⟩
  · exact ⟨by decide, by decide, by decide, by decide, fun _ => ⟨.skip, by decide⟩⟩
  · exact ⟨by decide, by decide, by decide⟩
  · refine ⟨by decide, by decide, by decide, by decide, by decide, fun j hj => ?_⟩
    simp [running, State.reset] at hj
  · exact ⟨by decide, by decide, by decide, by decide⟩

theorem witness_StepKeepsThePayloadInForm :
    PayloadInv twoEntries ∧ ∃ t, step { twoEntries with agenda := [.reset] } = .next t := ⟨⟨by decide, by decide⟩, _, rfl⟩

theorem witness_StepKeepsTheStatusInForm :
    StatusInv (running .skip .xSkip [.nibble 0xEB]) ∧ ∃ t, step (running .skip .xSkip [.nibble 0xEB]) = .next t := by
  refine ⟨⟨by decide, by decide, by decide, by decide, fun _ => ⟨.skip, by decide⟩⟩, _, rfl⟩

/-- A state after a successful RDSEC: every entry of PAYLOAD written, the checks of the attempt holding. -/
def afterSuccess : State :=
  { State.reset with
    cmd := encodeByte .rdsec, done := true, ok := true, d62Idx := 342
    afVol := 0xFE, afTrk := 0x11, afSec := 0x05, afChk := 0xEA, cfgTrack := 0x11, res := 0x05
    payload := (List.range 256).map fun j => (0x100 + j, 0x00) }

theorem witness_SuccessLeavesAReadableSector :
    Inv afterSuccess ∧ afterSuccess.ok = true ∧ afterSuccess.cmd = encodeByte .rdsec := by
  refine ⟨⟨?_, ?_, ?_, ?_, ?_⟩, rfl, rfl⟩
  · exact ⟨by decide, by decide, by decide, by decide, fun h => absurd h (by decide)⟩
  · exact ⟨by decide, by decide, by decide⟩
  · exact ⟨by decide +kernel, by decide +kernel⟩
  · refine ⟨by decide, by decide, by decide, by decide, by decide, fun j hj => ?_⟩
    have h : j < 256 := by
      have : afterSuccess.d62Idx.toNat = 342 := by decide
      omega
    have key : ∀ j < 256, memoryRead afterSuccess.payload (payloadIndex j) ≠ none := by decide +kernel
    exact key j h
  · exact ⟨by decide, by decide, by decide, by decide⟩

theorem witness_AssembledImageLayout :
    (∀ e ∈ ([(0x0D, List.replicate 256 0x0D)] : SectorMap), e.2.length = 256) ∧
    (∀ map ∈ ([[(0x0D, List.replicate 256 0x0D)], []] : List SectorMap), ∀ e ∈ map, e.2.length = 256) := by
  have entry : ∀ e ∈ ([(0x0D, List.replicate 256 0x0D)] : SectorMap), e.2.length = 256 := by
    intro e he
    rw [List.mem_singleton] at he
    rw [he]
    exact List.length_replicate
  refine ⟨entry, fun map hm e he => ?_⟩
  rcases List.mem_cons.1 hm with h | h
  · exact entry e (h ▸ he)
  · rw [List.mem_singleton] at h
    rw [h] at he
    cases he

end Sys2Proof.Tests
end

section
/-! Who can change what a command is given (R6, R33, R34, R75): the operand, marker and track registers and the two parameters, first
for every effect of an event, then for a step. -/

namespace Sys2Proof.Machine

/-- The `RW` indices are those of the operand, marker and track registers (R21). -/
theorem readIndex_of_sameInputs {s t : State} (h : sameInputs s t) {k : Nat} (hk : accessOf k = .readWrite) :
    readIndex t k = readIndex s k := by
  obtain ⟨lo, hi⟩ := (accessOf_readWrite_iff k).mp hk
  unfold sameInputs at h
  interval_cases k <;> simp [readIndex, h]

theorem parameters_of_sameInputs {s t : State} (h : sameInputs s t) :
    t.window = s.window ∧ t.trailingInvalid = s.trailingInvalid := by
  unfold sameInputs at h
  simp [h]

theorem readIndex_reads (s : State) (reads : List (Nat × Byte)) (k : Nat) :
    readIndex { s with reads := reads } k = readIndex s k := by
  unfold readIndex
  rfl

theorem startOf_accept_sameInputs (i : Instr) (v : Byte) (s : State) : sameInputs s (startOf i (accept v s)) := by
  obtain ⟨-, -, h⟩ := startOf_frame i (accept v s)
  simpa [sameInputs] using h

theorem nibbleStepOf_sameInputs (i : Instr) (s : State) : sameInputs s (nibbleStepOf i s) := by
  obtain ⟨-, -, h⟩ := nibbleStepOf_frame i s
  exact h

/-- R6: no event writes a parameter. -/
theorem effect_parameters {e : Event} {s t : State} (h : Effect e s t) :
    t.window = s.window ∧ t.trailingInvalid = s.trailingInvalid := by
  cases h with
  | nibbleStep i _ => exact parameters_of_sameInputs (nibbleStepOf_sameInputs i s)
  | command i _ => exact parameters_of_sameInputs (startOf_accept_sameInputs i _ s)
  | register index v _ _ => simp
  | nothingToDo _ | illegal _ _ _ _ | ignored _ _ _ _ | noWrite _ _ _ | read _ _ _ | reset | connect _ => exact ⟨rfl, rfl⟩

/-- R33, R34, R75: an event that makes an `RW` index read otherwise is reset or the host's write to that index of an idle block. -/
theorem effect_readIndex {e : Event} {s t : State} (h : Effect e s t) {k : Nat} (hk : accessOf k = .readWrite)
    (changed : readIndex t k ≠ readIndex s k) : e = .reset ∨ (s.busy = false ∧ ∃ v, e = .write k v) := by
  have not_sameInputs : ¬ sameInputs s t := fun same => changed (readIndex_of_sameInputs same hk)
  cases h with
  | nothingToDo _ | noWrite _ _ _ => exact absurd rfl changed
  | nibbleStep i _ => exact absurd (nibbleStepOf_sameInputs i s) not_sameInputs
  | command i _ => exact absurd (startOf_accept_sameInputs i _ s) not_sameInputs
  | illegal v _ _ _ => exact absurd (by simp [sameInputs, illegalCommand]) not_sameInputs
  | ignored _ _ _ _ => exact absurd (by simp [sameInputs]) not_sameInputs
  | connect c => exact absurd (by simp [sameInputs, connectStream]) not_sameInputs
  | read index b _ => exact absurd (readIndex_reads s _ k) changed
  | reset => exact .inl rfl
  | register index v idle hindex =>
    obtain ⟨lo, hi⟩ := (accessOf_readWrite_iff index).mp hindex
    have written : k = index := by
      by_contra other
      exact changed (by rw [readIndex_writeRegister s index k v lo hi, if_neg other])
    exact .inr ⟨idle, v, by rw [written]⟩

/-- Settles O13: taking the event from the agenda changes no register, and what follows is one of the effects of an event. -/
theorem inputsChangeOnlyByTheHost : Obligations.InputsChangeOnlyByTheHost := by
  intro s t h
  have effect := step_effect h
  obtain ⟨window, trailing⟩ := effect_parameters effect
  refine ⟨window, trailing, fun k hk changed => effect_readIndex effect hk ?_⟩
  rwa [popEvent, readIndex_agenda]

end Sys2Proof.Machine
end

section
/-! What the nibble step and the acceptance of a command can do, as far as the invariants ask: one inversion lemma for each (R168 to
R182, R227, R262). -/

namespace Sys2Proof.Machine

/-- `u` is `s` but for what consuming a nibble moves: the cursor, the window, the count and HI. The window stays short (R160). -/
inductive Consumes (s : State) : State → Prop where
  | mk (cursor : Cursor) (win : List Byte) (wcnt hi : Byte) (held : Bool) : (s.win.length ≤ 3 → win.length ≤ 3) →
      Consumes s { s with stream := cursor, win := win, wcnt := wcnt, hi := hi, hiHeld := held }

theorem consumes_cursor (s : State) (c : Cursor) : Consumes s { s with stream := c } := .mk c _ _ _ _ id

theorem consumes_refl (s : State) : Consumes s s := consumes_cursor s s.stream

theorem consumes_window {k : Nat} (hk : k ≤ 3) (b wcnt : Byte) (c : Cursor) (s : State) :
    Consumes s (shiftWindow k b { s with stream := c, wcnt := wcnt }) :=
  .mk c _ _ _ _ fun _ => (length_lastK k _).trans hk

/-- A nibble may be followed by the clearing of the window and the count, where it ends one search and starts another (R164). -/
theorem Consumes.cleared {s u : State} (h : Consumes s u) : Consumes s { u with win := [], wcnt := 0 } := by
  obtain ⟨c, win, wcnt, hi, held, short⟩ := h
  exact .mk c [] 0 hi held fun _ => by simp

/-- The flag of a pair may be cleared with a nibble (R170). -/
theorem Consumes.released {s u : State} (h : Consumes s u) : Consumes s { u with hiHeld := false } := by
  obtain ⟨c, win, wcnt, hi, held, short⟩ := h
  exact .mk c win wcnt hi false short

/-- The moves of RDSEC that no check guards (R173, R174, R177, R178). -/
def unguardedMoves : List (Phase × Phase) :=
  [(.aEpi, .aEpi3), (.aEpi3, .dSync), (.dSync, .dPro), (.dChk, .dEpi), (.dEpi, .dEpi3)]

/-- What a nibble step of command `i` can make of a state in which `i` is running. -/
inductive NibbleEffect : Instr → State → State → Prop where
  | goesOn {i s u} : Consumes s u → u.wcnt = s.wcnt ∨ u.wcnt < s.window → NibbleEffect i s u
  | completes {i s u} (k : Kind) (r sec chk : Byte) : Consumes s u → raisedBy k (encodeByte i) = true →
      (k = .ok → i ≠ .rdsec) → NibbleEffect i s (finish k { u with res := r, afSec := sec, afChk := chk })
  | readsField {s u} (vol trk : Byte) (p : Phase) : Consumes s u → p ∈ [Phase.aVol, .aTrk, .aSec] →
      NibbleEffect .rdsec s { u with afVol := vol, afTrk := trk, phase := p }
  | acceptsTrack {s u} (sec : Byte) : Consumes s u → u.afTrk = u.cfgTrack →
      NibbleEffect .rdsec s { u with afSec := sec, phase := .aChk }
  | acceptsAddress {s u} (chk : Byte) : Consumes s u → s.phase = .aChk → addrOk u.afVol u.afTrk u.afSec chk = true →
      u.wcnt = 0 → NibbleEffect .rdsec s { u with afChk := chk, phase := .aEpi }
  | passes {s u} (p : Phase) : Consumes s u → (s.phase, p) ∈ unguardedMoves → boundedPhase p = false ∨ u.wcnt = 0 →
      NibbleEffect .rdsec s { u with phase := p }
  | startsDecode {s u} : Consumes s u → s.phase = .dPro → NibbleEffect .rdsec s (startDecode { u with phase := .dData })
  | decodes {i s u} (n : Byte) : Consumes s u → decodePhase s.phase = true → decodeComplete (decodeNibble n u) = false →
      NibbleEffect i s (decodeNibble n u)
  | endsDecode {s u} (n : Byte) : Consumes s u → s.phase = .dData → decodeComplete (decodeNibble n u) = true →
      (decodeNibble n u).inv = false → NibbleEffect .rdsec s { decodeNibble n u with phase := .dChk }
  | completesDecode {i s u} (n : Byte) (k : Kind) (r : Byte) : Consumes s u → decodePhase s.phase = true →
      raisedBy k (encodeByte i) = true → (k = .ok → i ≠ .rdsec) →
      NibbleEffect i s (finish k { decodeNibble n u with res := r })
  | succeeds {s u} : Consumes s u → s.phase = .dEpi3 → NibbleEffect .rdsec s (finish .ok { u with res := u.afSec })

/-! ## The effect of each shared operation -/

theorem waits_effect (i : Instr) (s : State) (c : Cursor) : NibbleEffect i s { s with stream := c } :=
  .goesOn (consumes_cursor s c) (.inl rfl)

theorem noStep_effect (i : Instr) (s : State) : NibbleEffect i s s := waits_effect i s s.stream

/-- A completion that writes no register but those of every completion. -/
theorem finish_effect {i : Instr} {s u : State} (k : Kind) (hu : Consumes s u) (hk : raisedBy k (encodeByte i) = true)
    (h : k = .ok → i ≠ .rdsec) : NibbleEffect i s (finish k u) :=
  .completes (u := u) k u.res u.afSec u.afChk hu hk h

theorem exhausted_effect {i : Instr} (s : State) (h : raisedBy .streamExhausted (encodeByte i) = true) :
    NibbleEffect i s (exhausted s) :=
  finish_effect .streamExhausted (consumes_refl s) h nofun

theorem onNext_effect {i : Instr} {s : State} {g : Byte → State → State}
    (hraise : raisedBy .streamExhausted (encodeByte i) = true) (hg : ∀ b u, Consumes s u → NibbleEffect i s (g b u)) :
    NibbleEffect i s (onNext exhausted g s) :=
  onNext_keeps (noStep_effect i s) (waits_effect i s) (exhausted_effect s hraise) fun b c => hg b _ (consumes_cursor s c)

theorem seekStep_effect {i : Instr} {s : State} {p : Pattern} {found atEos : State → State}
    (heos : NibbleEffect i s (atEos s)) (hfound : ∀ u, Consumes s u → NibbleEffect i s (found u)) :
    NibbleEffect i s (seekStep (patternBytes p s) atEos found s) := by
  have shifted b c := consumes_window (length_patternBytes p s).2 b s.wcnt c s
  exact seekStep_keeps (noStep_effect i s) (waits_effect i s) heos (fun b c => hfound _ (shifted b c))
    fun b c => .goesOn (shifted b c) (.inl rfl)

theorem searchStep_effect {i : Instr} {s : State} {p : Pattern} {found missed : State → State}
    (hraise : raisedBy .streamExhausted (encodeByte i) = true) (hfound : ∀ u, Consumes s u → NibbleEffect i s (found u))
    (hmissed : ∀ u, Consumes s u → NibbleEffect i s (missed u)) :
    NibbleEffect i s (searchStep (patternBytes p s) found missed s) := by
  have shifted b c := consumes_window (length_patternBytes p s).2 b (s.wcnt + 1) c s
  exact searchStep_keeps (noStep_effect i s) (waits_effect i s) (exhausted_effect s hraise) (fun b c => hfound _ (shifted b c))
    (fun b c => hmissed _ (shifted b c)) fun b c below => .goesOn (shifted b c) (.inr below)

theorem pairStep_effect {s : State} {decoded : Byte → State → State}
    (hsecond : ∀ x u, Consumes s u → NibbleEffect .rdsec s (decoded x u)) : NibbleEffect .rdsec s (pairStep decoded s) :=
  pairStep_keeps (noStep_effect _ s) (waits_effect _ s) (exhausted_effect s rfl)
    (fun _ c _ => hsecond _ _ (consumes_cursor s c).released) fun n c _ => .goesOn (.mk c _ _ n true id) (.inl rfl)

theorem decodeStep_effect {i : Instr} {s : State} {ended : State → State}
    (hraise : raisedBy .streamExhausted (encodeByte i) = true) (hphase : decodePhase s.phase = true)
    (hended : ∀ n u, Consumes s u → decodeComplete (decodeNibble n u) = true → NibbleEffect i s (ended (decodeNibble n u))) :
    NibbleEffect i s (decodeStep ended s) :=
  decodeStep_keeps (noStep_effect i s) (waits_effect i s) (exhausted_effect s hraise)
    (fun n c => hended n _ (consumes_cursor s c)) fun n c => .decodes n (consumes_cursor s c) hphase

/-! ## RDSEC, phase by phase -/

theorem rdsecASec_effect (s : State) : NibbleEffect .rdsec s (rdsecASec s) := by
  refine pairStep_effect fun x u hu => ?_
  unfold rdsecTrackCheck
  split
  · rename_i h
    exact .acceptsTrack (u := { u with hiHeld := false }) x hu.released (by simpa [trackOk] using h)
  · exact .completes (u := u) .trackMismatch u.res x u.afChk hu rfl nofun

theorem rdsecAChk_effect {s : State} (hs : s.phase = .aChk) : NibbleEffect .rdsec s (rdsecAChk s) := by
  refine pairStep_effect fun x u hu => ?_
  unfold rdsecAddressCheck
  split
  · rename_i h
    exact .acceptsAddress (u := { u with win := [], wcnt := 0 }) x hu.cleared hs h rfl
  · exact .completes (u := u) .addrChecksumMismatch u.res u.afSec x hu rfl nofun

theorem rdsecDData_effect {s : State} (hs : s.phase = .dData) : NibbleEffect .rdsec s (rdsecDData s) := by
  have hphase : decodePhase s.phase = true := by rw [hs]; rfl
  refine decodeStep_effect rfl hphase fun n u hu hc => ?_
  unfold rdsecDataEnded
  split
  · exact .completesDecode (u := u) n .corruptSectorData (decodeNibble n u).res hu hphase rfl nofun
  · rename_i h
    exact .endsDecode n hu hs hc (by simpa using h)

theorem rdsecDChk_effect {s : State} (hs : s.phase = .dChk) : NibbleEffect .rdsec s (rdsecDChk s) := by
  refine onNext_effect rfl fun t u hu => ?_
  unfold rdsecTrailing
  split
  · cases h : u.trailingInvalid <;> exact finish_effect _ hu rfl nofun
  · split
    · exact .passes (u := { u with win := [], wcnt := 0 }) .dEpi hu.cleared (by rw [hs]; decide) (.inr rfl)
    · exact finish_effect _ hu rfl nofun

/-- The whole of RDSEC: one effect for each phase (R181). -/
theorem rdsecStep_effect (s : State) : NibbleEffect .rdsec s (rdsecStep s) := by
  cases hs : s.phase
  case aPro =>
    rw [rdsecStep_aPro hs]
    exact seekStep_effect (finish_effect _ (consumes_refl s) rfl nofun) fun u hu =>
      .readsField (u := { u with hiHeld := false }) u.afVol u.afTrk .aVol hu.released (by decide)
  case aVol =>
    rw [rdsecStep_aVol hs]
    exact pairStep_effect fun x u hu => .readsField (u := { u with hiHeld := false }) x u.afTrk .aTrk hu.released (by decide)
  case aTrk =>
    rw [rdsecStep_aTrk hs]
    exact pairStep_effect fun x u hu => .readsField (u := { u with hiHeld := false }) u.afVol x .aSec hu.released (by decide)
  case aSec => exact rdsecStep_aSec hs ▸ rdsecASec_effect s
  case aChk => exact rdsecStep_aChk hs ▸ rdsecAChk_effect hs
  case aEpi =>
    rw [rdsecStep_aEpi hs]
    exact searchStep_effect rfl (fun u hu => .passes (u := u) .aEpi3 hu (by rw [hs]; decide) (.inl rfl))
      fun u hu => finish_effect _ hu rfl nofun
  case aEpi3 =>
    rw [rdsecStep_aEpi3 hs]
    exact onNext_effect rfl fun _ u hu =>
      .passes (u := { u with win := [], wcnt := 0 }) .dSync hu.cleared (by rw [hs]; decide) (.inr rfl)
  case dSync =>
    rw [rdsecStep_dSync hs]
    exact searchStep_effect rfl
      (fun u hu => .passes (u := { u with win := [], wcnt := 0 }) .dPro hu.cleared (by rw [hs]; decide) (.inr rfl))
      fun u hu => finish_effect _ hu rfl nofun
  case dPro =>
    rw [rdsecStep_dPro hs]
    exact searchStep_effect rfl (fun u hu => .startsDecode (u := u) hu hs) fun u hu => finish_effect _ hu rfl nofun
  case dData => exact rdsecStep_dData hs ▸ rdsecDData_effect hs
  case dChk => exact rdsecStep_dChk hs ▸ rdsecDChk_effect hs
  case dEpi =>
    rw [rdsecStep_dEpi hs]
    exact searchStep_effect rfl (fun u hu => .passes (u := u) .dEpi3 hu (by rw [hs]; decide) (.inl rfl))
      fun u hu => finish_effect _ hu rfl nofun
  case dEpi3 =>
    rw [rdsecStep_dEpi3 hs]
    exact onNext_effect rfl fun _ u hu => .succeeds (u := u) hu hs
  case idle | xSeek | xBsrch | xSkip | xD62 =>
    have unchanged : rdsecStep s = s := by
      unfold rdsecStep
      rw [hs]
    rw [unchanged]
    exact noStep_effect _ s

theorem d62Step_effect {s : State} (hphase : decodePhase s.phase = true) : NibbleEffect .d62 s (d62Step s) := by
  refine decodeStep_effect rfl hphase fun n u hu _ => ?_
  refine .completesDecode (u := u) n _ ((decodeNibble n u).d62Chk.setWidth 8) hu hphase ?_ (by simp)
  split <;> rfl

/-- What a turn of a running command can do (R262). -/
theorem nibbleStepOf_effect {i : Instr} {s : State} (hr : runningIn i s = true) : NibbleEffect i s (nibbleStepOf i s) := by
  obtain ⟨-, -, hp⟩ := (runningIn_iff i s).mp hr
  cases i
  case nop | d44 | l62 | cka | ckd | ckt => exact noStep_effect _ s
  case rdsec => exact rdsecStep_effect s
  case d62 => exact d62Step_effect (by simp_all [phasesOf, decodePhase])
  case skip => exact onNext_effect rfl fun b u hu => .completes (u := u) .ok b u.afSec u.afChk hu rfl (by simp)
  case seekApro | seekAepi | seekDpro | seekDepi | seekSync =>
    exact seekStep_effect (finish_effect _ (consumes_refl s) rfl nofun) fun u hu => finish_effect .ok hu rfl (by simp)
  all_goals
    exact searchStep_effect rfl (fun u hu => .completes (u := u) .ok u.wcnt u.afSec u.afChk hu rfl (by simp))
      fun u hu => .completes (u := u) .markerNotFound u.window u.afSec u.afChk hu rfl nofun

/-! ## The acceptance -/

/-- What the acceptance of command `i` does after `accept()` (R227): a combinational command completes; a streaming one is started in a
phase of its own, with an empty search or a fresh decode. -/
inductive StartEffect : Instr → State → State → Prop where
  | completes {i s} (k : Kind) (r : Byte) : i.streaming = false → raisedBy k (encodeByte i) = true →
      StartEffect i s (finish k { s with res := r })
  | starts {i s u} (vol trk sec chk : Byte) (p : Phase) : Consumes s u → p ∈ phasesOf i →
      p ∈ [Phase.aPro, .xSeek, .xBsrch, .xSkip] → p = .xSkip ∨ u.wcnt = 0 →
      StartEffect i s { u with afVol := vol, afTrk := trk, afSec := sec, afChk := chk, busy := true, phase := p }
  | startsDecode {s} : StartEffect .d62 s (startDecode (startStreaming .xD62 s))

theorem startSearch_effect {i : Instr} (s : State) {p : Phase} (hp : p ∈ phasesOf i)
    (hstart : p ∈ [Phase.aPro, .xSeek, .xBsrch, .xSkip]) : StartEffect i s (startSearch p (startStreaming p s)) :=
  .starts (u := { s with win := [], wcnt := 0 }) s.afVol s.afTrk s.afSec s.afChk p (consumes_refl s).cleared hp hstart (.inr rfl)

/-- A comparison that completes with COMPARE_MISMATCH or with success (R204 to R206). -/
theorem compare_effect {i : Instr} (s : State) (r : Byte) (c : Prop) [Decidable c] (hi : i.streaming = false)
    (hraise : raisedBy .compareMismatch (encodeByte i) = true) :
    StartEffect i s (finish (if c then .ok else .compareMismatch) { s with res := r }) := by
  refine .completes _ r hi ?_
  split
  · rfl
  · exact hraise

theorem l62Body_effect (s : State) : StartEffect .l62 s (l62Body s) := by
  unfold l62Body
  split
  · exact .completes .invalidEncodedByte s.res rfl rfl
  · exact .completes .ok _ rfl rfl

theorem ckdBody_effect (s : State) : StartEffect .ckd s (ckdBody s) := by
  unfold ckdBody
  split
  · exact .completes .invalidEncodedByte s.res rfl rfl
  · exact compare_effect s _ _ rfl rfl

theorem startOf_effect (i : Instr) (s : State) : StartEffect i s (startOf i s) := by
  cases i
  case nop => exact .completes .ok s.res rfl rfl
  case d44 => exact .completes .ok _ rfl rfl
  case l62 => exact l62Body_effect s
  case ckd => exact ckdBody_effect s
  case cka | ckt => exact compare_effect s _ _ rfl rfl
  case d62 => exact .startsDecode
  case skip => exact .starts (u := s) s.afVol s.afTrk s.afSec s.afChk .xSkip (consumes_refl s) (by decide) (by decide) (.inl rfl)
  case rdsec =>
    exact .starts (u := { s with win := [], wcnt := 0 }) 0 0 0 0 .aPro (consumes_refl s).cleared (by decide) (by decide) (.inr rfl)
  all_goals exact startSearch_effect s (by decide) (by decide)

end Sys2Proof.Machine
end

section
/-! The invariant of the status registers (R24 to R30, R38): what `finish`, a running command and a start keep of it, then every effect. -/

namespace Sys2Proof.Machine

/-- CMD and the status registers are the same. -/
def sameStatus (s t : State) : Prop :=
  t.cmd = s.cmd ∧ t.busy = s.busy ∧ t.done = s.done ∧ t.ok = s.ok ∧ t.sev = s.sev ∧ t.kind = s.kind

theorem sameStatus_refl (s : State) : sameStatus s s := ⟨rfl, rfl, rfl, rfl, rfl, rfl⟩

theorem Consumes.status {s u : State} (h : Consumes s u) : sameStatus s u := by
  cases h
  simp [sameStatus]

theorem Consumes.phase {s u : State} (h : Consumes s u) : u.phase = s.phase := by
  cases h
  rfl

theorem idle_not_mem_phasesOf (i : Instr) : Phase.idle ∉ phasesOf i := by
  cases i <;> decide

theorem streaming_of_mem_phasesOf {i : Instr} {p : Phase} (h : p ∈ phasesOf i) : i.streaming = true := by
  cases i <;> simp [phasesOf, Instr.streaming] at h ⊢

theorem statusInv_of_same {s t : State} (h : StatusInv s) (same : sameStatus s t) (phase : t.phase = s.phase) :
    StatusInv t := by
  obtain ⟨hcmd, hbusy, hdone, hok, hsev, hkind⟩ := same
  refine ⟨?_, ?_, ?_, ?_, fun hb => ?_⟩
  · rw [hbusy, phase]
    exact h.busyPhase
  · rw [hbusy, hdone]
    exact h.notBoth
  · rw [hdone, hsev, hkind, hok]
    exact h.completed
  · rw [hdone, hsev, hkind, hok]
    exact h.pending
  · obtain ⟨i, hi⟩ := h.running (hbusy ▸ hb)
    exact ⟨i, by rwa [runningIn_iff, hbusy, hcmd, phase, ← runningIn_iff]⟩

theorem statusInv_finish (k : Kind) (s : State) : StatusInv (finish k s) := by
  constructor <;> simp

/-- A running command whose result registers are still clear. -/
theorem statusInv_running {i : Instr} {t : State} (hr : runningIn i t = true) (done : t.done = false) (ok : t.ok = false)
    (kind : t.kind = .ok) (sev : t.sev = .none) : StatusInv t := by
  obtain ⟨hb, -, hp⟩ := (runningIn_iff i t).mp hr
  have notIdle : t.phase ≠ .idle := fun hidle => idle_not_mem_phasesOf i (hidle ▸ hp)
  exact ⟨by simp [hb, notIdle], by simp [done], by simp [done], fun _ => ⟨ok, kind, sev⟩, fun _ => ⟨i, hr⟩⟩

/-- While a command runs its result registers are clear (R227). -/
theorem StatusInv.pending_of_running {i : Instr} {s : State} (h : StatusInv s) (hr : runningIn i s = true) :
    s.done = false ∧ s.ok = false ∧ s.kind = .ok ∧ s.sev = .none := by
  obtain ⟨hb, -, -⟩ := (runningIn_iff i s).mp hr
  have hdone : s.done = false := by simpa using fun hd => h.notBoth ⟨hb, hd⟩
  exact ⟨hdone, h.pending hdone⟩

/-- A running command stays one when it moves to another phase of its own. -/
theorem statusInv_moved {i : Instr} {s t : State} (h : StatusInv s) (hr : runningIn i s = true) (p : Phase)
    (same : sameStatus s t) (phase : t.phase = p) (hp : p ∈ phasesOf i) : StatusInv t := by
  obtain ⟨hb, hcmd, -⟩ := (runningIn_iff i s).mp hr
  obtain ⟨done, ok, kind, sev⟩ := h.pending_of_running hr
  obtain ⟨hcmd', hbusy', hdone', hok', hsev', hkind'⟩ := same
  refine statusInv_running (i := i) ?_ (hdone'.trans done) (hok'.trans ok) (hkind'.trans kind) (hsev'.trans sev)
  exact (runningIn_iff i t).mpr ⟨hbusy'.trans hb, hcmd'.trans hcmd, phase ▸ hp⟩

theorem statusInv_nibble {i : Instr} {s t : State} (h : StatusInv s) (hr : runningIn i s = true) (e : NibbleEffect i s t) :
    StatusInv t := by
  cases e with
  | completes | completesDecode | succeeds => exact statusInv_finish _ _
  | goesOn hu _ => exact statusInv_of_same h hu.status hu.phase
  | decodes n hu _ _ => exact statusInv_of_same h (by simpa [sameStatus] using hu.status) (by simpa using hu.phase)
  | endsDecode n hu _ _ _ => exact statusInv_moved h hr .dChk (by simpa [sameStatus] using hu.status) rfl (by decide)
  | readsField vol trk p hu hp =>
    have reading : ∀ q ∈ [Phase.aVol, .aTrk, .aSec], q ∈ phasesOf .rdsec := by decide
    exact statusInv_moved h hr p hu.status rfl (reading p hp)
  | acceptsTrack _ hu _ => exact statusInv_moved h hr .aChk hu.status rfl (by decide)
  | acceptsAddress _ hu _ _ _ => exact statusInv_moved h hr .aEpi hu.status rfl (by decide)
  | passes p hu hp _ =>
    have within : ∀ move ∈ unguardedMoves, move.2 ∈ phasesOf .rdsec := by decide
    exact statusInv_moved h hr p hu.status rfl (within _ hp)
  | startsDecode hu _ => exact statusInv_moved h hr .dData hu.status rfl (by decide)

theorem statusInv_start {i : Instr} {s t : State} (e : StartEffect i (accept (encodeByte i) s) t) : StatusInv t := by
  cases e with
  | completes => exact statusInv_finish _ _
  | starts vol trk sec chk p hu hp _ _ =>
    obtain ⟨c, win, wcnt, hi, held, -⟩ := hu
    exact statusInv_running (i := i) (by simpa [runningIn_iff] using hp) rfl rfl rfl rfl
  | startsDecode => exact statusInv_running (i := .d62) rfl rfl rfl rfl rfl

theorem statusInv_effect {e : Event} {s t : State} (h : StatusInv s) (he : Effect e s t) : StatusInv t := by
  cases he with
  | nothingToDo _ | noWrite _ _ _ => exact h
  | nibbleStep i hr => exact statusInv_nibble h hr (nibbleStepOf_effect hr)
  | command i _ => exact statusInv_start (startOf_effect i _)
  | illegal v _ _ _ => exact statusInv_finish _ _
  | register index v _ _ => exact statusInv_of_same h (by simp [sameStatus]) (by simp)
  | ignored _ _ _ _ | read _ _ _ | connect _ => exact statusInv_of_same h (sameStatus_refl s) rfl
  | reset => constructor <;> simp [assertReset, State.reset]

theorem statusInv_popEvent {s : State} (h : StatusInv s) : StatusInv (popEvent s) :=
  statusInv_of_same h (sameStatus_refl s) rfl

/-- Settles O57: each effect of an event leaves the status registers as they were, clear for a running command, or completed. -/
theorem stepKeepsTheStatusInForm : Obligations.StepKeepsTheStatusInForm :=
  fun _ _ h hstep => statusInv_effect (statusInv_popEvent h) (step_effect hstep)

end Sys2Proof.Machine
end

section
/-! The payload buffer (R39, R61, R253): the one nibble that writes an entry of it, and its form. -/

namespace Sys2Proof.Machine

/-- The payload buffers that data nibble 86 + j makes, D62_IDX being its index (R139). -/
inductive PayloadWrite (s : State) : Memory → Prop where
  | mk (j : Nat) (b : Byte) : j < 256 → s.d62Idx.toNat = 86 + j → PayloadWrite s (memoryWrite s.payload (payloadIndex j) b)

theorem decodeNibble_payload (n : Byte) (s : State) :
    (s.d62Idx.toNat < 86 ∨ 342 ≤ s.d62Idx.toNat) ∧ (decodeNibble n s).payload = s.payload ∨
      PayloadWrite s (decodeNibble n s).payload := by
  have stored : (decodeNibble n s).payload =
      (storeValue s.d62Idx.toNat (s.d62Chk ^^^ nibbleValue n) (checkNibble s.d62Idx n s)).payload := rfl
  have unwritten : (checkNibble s.d62Idx n s).payload = s.payload := by simp
  rcases storeValue_cases s.d62Idx.toNat (s.d62Chk ^^^ nibbleValue n) (checkNibble s.d62Idx n s) with
    ⟨low, h⟩ | ⟨lo, hi, b, -, h⟩ | ⟨high, h⟩
  · exact .inl ⟨.inl low, by rw [stored, h, unwritten]⟩
  · rw [stored, h, unwritten]
    exact .inr (.mk (s.d62Idx.toNat - 86) b (by omega) (by omega))
  · exact .inl ⟨.inr high, by rw [stored, h, unwritten]⟩

theorem Consumes.payload {s u : State} (h : Consumes s u) : u.payload = s.payload := by
  cases h
  rfl

theorem Consumes.payloadWrite {s u : State} (h : Consumes s u) {m : Memory} (hm : PayloadWrite u m) : PayloadWrite s m := by
  cases h
  cases hm with
  | mk j b hj hidx => exact .mk j b hj hidx

theorem Consumes.decodeNibble_payload {s u : State} (h : Consumes s u) (n : Byte) :
    (decodeNibble n u).payload = s.payload ∨ PayloadWrite s (decodeNibble n u).payload := by
  rcases Machine.decodeNibble_payload n u with ⟨-, same⟩ | written
  · exact .inl (same.trans h.payload)
  · exact .inr (h.payloadWrite written)

theorem nibble_payload {i : Instr} {s t : State} (e : NibbleEffect i s t) :
    t.payload = s.payload ∨ decodePhase s.phase = true ∧ PayloadWrite s t.payload := by
  cases e with
  | goesOn hu _ | completes _ _ _ _ hu _ _ | readsField _ _ _ hu _ | acceptsTrack _ hu _ | acceptsAddress _ hu _ _ _
  | passes _ hu _ _ | startsDecode hu _ | succeeds hu _ => exact .inl hu.payload
  | decodes n hu hphase _ | completesDecode n _ _ hu hphase _ _ => exact (hu.decodeNibble_payload n).imp_right fun h => ⟨hphase, h⟩
  | endsDecode n hu hphase _ _ => exact (hu.decodeNibble_payload n).imp_right fun h => ⟨by rw [hphase]; rfl, h⟩

theorem start_payload {i : Instr} {s t : State} (e : StartEffect i s t) : t.payload = s.payload := by
  cases e with
  | completes | startsDecode => rfl
  | starts _ _ _ _ _ hu _ _ _ => exact hu.payload

/-- Only a decode step and reset write the payload buffer (R39, R253). -/
theorem effect_payload {e : Event} {s t : State} (he : Effect e s t) :
    t.payload = s.payload ∨ (e = .reset ∧ t.payload = redrawPayload s.draws s.payload) ∨
      (e = .turn ∧ s.busy = true ∧ decodePhase s.phase = true ∧ PayloadWrite s t.payload) := by
  cases he with
  | nibbleStep i hr =>
    obtain ⟨hb, -, -⟩ := (runningIn_iff i s).mp hr
    exact (nibble_payload (nibbleStepOf_effect hr)).imp_right fun ⟨hphase, h⟩ => .inr ⟨rfl, hb, hphase, h⟩
  | command i _ => exact .inl ((start_payload (startOf_effect i (accept _ s))).trans (accept_payload _ s))
  | reset => exact .inr (.inl ⟨rfl, rfl⟩)
  | register index v _ _ => exact .inl (writeRegister_payload index v s)
  | nothingToDo _ | illegal _ _ _ _ | ignored _ _ _ _ | noWrite _ _ _ | read _ _ _ | connect _ => exact .inl rfl

theorem payloadInv_effect {e : Event} {s t : State} (h : PayloadInv s) (he : Effect e s t) : PayloadInv t := by
  obtain ⟨hwf, hrange⟩ := h
  rcases effect_payload he with same | ⟨-, drawn⟩ | ⟨-, -, -, written⟩
  · exact ⟨same ▸ hwf, same ▸ hrange⟩
  · exact ⟨by rwa [drawn, wf_redrawPayload], by rwa [drawn, inRange_redrawPayload]⟩
  · generalize hm : t.payload = m at written
    obtain ⟨j, b, hj, -⟩ := written
    refine ⟨hm ▸ wf_memoryWrite _ _ _ hwf, hm ▸ inRange_memoryWrite _ _ _ hrange ?_ ?_⟩ <;> unfold payloadIndex <;> omega

/-- Settles O56: a buffer changes only by a write at an index of PAYLOAD and by the draw of a reset, and both keep its form. -/
theorem stepKeepsThePayloadInForm : Obligations.StepKeepsThePayloadInForm :=
  fun _ _ h hstep => payloadInv_effect (s := popEvent _) ⟨h.sorted, h.inRange⟩ (step_effect hstep)

/-- Settles O16: the write of a decode step is at the index of its nibble, and the draw of a reset keeps which indices have a value. -/
theorem payloadChangesOnlyByItsNibble : Obligations.PayloadChangesOnlyByItsNibble := by
  intro s t hstep i
  have unpopped : (popEvent s).payload = s.payload := rfl
  rcases effect_payload (step_effect hstep) with same | ⟨hreset, drawn⟩ | ⟨hturn, hbusy, hphase, written⟩
  · rw [same, unpopped]
    exact ⟨fun changed => absurd rfl changed, id, fun _ => id⟩
  · have read : memoryRead t.payload i = (memoryRead s.payload i).map fun _ => Config.freePayload s.draws i := by
      rw [drawn]
      exact memoryRead_redrawPayload _ _ i
    rw [read]
    exact ⟨fun _ => .inl hreset, by simp, fun _ h => by simp [h]⟩
  · generalize hm : t.payload = m at written
    obtain ⟨j, b, hj, hidx⟩ := written
    have read := memoryRead_write s.payload (payloadIndex j) i b
    rw [unpopped, read]
    refine ⟨fun changed => .inr ⟨hturn, hbusy, hphase, j, hj, ?_, hidx⟩, ?_, fun hreset => ?_⟩
    · by_contra other
      exact changed (if_neg other)
    · split
      · simp
      · exact id
    · rw [hreset] at hturn
      cases hturn

end Sys2Proof.Machine
end

section
/-! The invariants of the matcher, the decoder and the attempt, and the whole invariant (R37, R39, R41, R113, R142, R162, R171, R172,
R179). -/

namespace Sys2Proof.Machine

/-! ## The matcher -/

/-- A new state keeps the matcher's invariant if its count starts a search, is below the window, or is the old one. -/
theorem searchInv_of {s t : State} (h : SearchInv s) (window : t.window = s.window)
    (short : s.win.length ≤ 3 → t.win.length ≤ 3)
    (count : boundedPhase t.phase = true → t.wcnt = 0 ∨ t.wcnt < s.window ∨ boundedPhase s.phase = true ∧ t.wcnt = s.wcnt) :
    SearchInv t := by
  refine ⟨window ▸ h.windowPositive, short h.winShort, fun hp => ?_⟩
  rw [window]
  rcases count hp with zero | below | ⟨hs, same⟩
  · have positive := h.windowPositive
    rw [zero]
    bv_omega
  · exact below
  · exact same ▸ h.countInWindow hs

theorem Consumes.window {s u : State} (h : Consumes s u) : u.window = s.window := by
  cases h
  rfl

theorem Consumes.winShort {s u : State} (h : Consumes s u) : s.win.length ≤ 3 → u.win.length ≤ 3 := by
  obtain ⟨_, _, _, _, _, short⟩ := h
  exact short

theorem searchInv_nibble {i : Instr} {s t : State} (h : SearchInv s) (e : NibbleEffect i s t) : SearchInv t := by
  cases e with
  | goesOn hu count =>
    refine searchInv_of h hu.window hu.winShort fun hp => .inr ?_
    rw [hu.phase] at hp
    exact count.symm.imp_right fun same => ⟨hp, same⟩
  | completes _ _ _ _ hu _ _ | succeeds hu _ => exact searchInv_of h hu.window hu.winShort nofun
  | acceptsTrack _ hu _ | startsDecode hu _ => exact searchInv_of h hu.window hu.winShort nofun
  | readsField _ _ p hu hp =>
    have unbounded : ∀ q ∈ [Phase.aVol, .aTrk, .aSec], ¬ boundedPhase q = true := by decide
    exact searchInv_of h hu.window hu.winShort fun hb => absurd hb (unbounded p hp)
  | acceptsAddress _ hu _ _ zero => exact searchInv_of h hu.window hu.winShort fun _ => .inl zero
  | passes p hu _ count =>
    exact searchInv_of h hu.window hu.winShort fun hb => .inl (count.resolve_left (by simpa using hb))
  | decodes n hu hphase _ =>
    have unbounded : boundedPhase s.phase = false := by
      cases hs : s.phase <;> simp [hs, decodePhase, boundedPhase] at hphase ⊢
    exact searchInv_of h (by simpa using hu.window) (by simpa using hu.winShort) (by simp [hu.phase, unbounded])
  | endsDecode _ hu _ _ _ => exact searchInv_of h (by simpa using hu.window) (by simpa using hu.winShort) nofun
  | completesDecode _ _ _ hu _ _ _ => exact searchInv_of h (by simpa using hu.window) (by simpa using hu.winShort) nofun

theorem searchInv_start {i : Instr} {v : Byte} {s t : State} (h : SearchInv s) (e : StartEffect i (accept v s) t) : SearchInv t := by
  cases e with
  | completes | startsDecode => exact searchInv_of h rfl id nofun
  | starts _ _ _ _ p hu _ _ count =>
    refine searchInv_of h hu.window hu.winShort fun hb => .inl (count.resolve_left fun skip => ?_)
    rw [skip] at hb
    cases hb

theorem searchInv_effect {e : Event} {s t : State} (h : SearchInv s) (he : Effect e s t) : SearchInv t := by
  cases he with
  | nothingToDo _ | noWrite _ _ _ => exact h
  | nibbleStep i hr => exact searchInv_nibble h (nibbleStepOf_effect hr)
  | command i _ => exact searchInv_start h (startOf_effect i _)
  | illegal v _ _ _ => exact searchInv_of h rfl id nofun
  | register index v _ _ => exact searchInv_of h (by simp) (by simp) fun hp => .inr (.inr ⟨by simpa using hp, by simp⟩)
  | ignored _ _ _ _ | read _ _ _ | connect _ => exact ⟨h.windowPositive, h.winShort, h.countInWindow⟩
  | reset => exact searchInv_of h rfl (fun _ => Nat.zero_le 3) nofun

/-! ## The decoder -/

theorem sameDecoder_refl (s : State) : sameDecoder s s := ⟨rfl, rfl, rfl, rfl, rfl, rfl, rfl⟩

theorem decodeInv_of_same {s t : State} (h : DecodeInv s) (same : sameDecoder s t)
    (decoding : decodePhase t.phase = true → decodePhase s.phase = true)
    (decoded : afterDecodePhase t.phase = true → afterDecodePhase s.phase = true) : DecodeInv t := by
  obtain ⟨-, hbyte, hidx, hinv, hpayload, -, hcount⟩ := same
  constructor
  · exact hcount ▸ h.idxBound
  · exact fun hp => hcount ▸ h.decoding (decoding hp)
  · exact fun hp => hcount ▸ hinv ▸ h.decoded (decoded hp)
  · exact hinv ▸ hidx ▸ hcount ▸ hbyte ▸ h.invRecord
  · exact hinv ▸ hidx ▸ hbyte ▸ h.noRecord
  · exact hpayload ▸ hcount ▸ h.written

theorem Consumes.decodeInv {s u : State} (hu : Consumes s u) (h : DecodeInv s) : DecodeInv u := by
  cases hu
  exact ⟨h.idxBound, h.decoding, h.decoded, h.invRecord, h.noRecord, h.written⟩

theorem decodeInv_startDecode {s : State} (h : afterDecodePhase s.phase = false) : DecodeInv (startDecode s) := by
  constructor <;> simp [h]

theorem decodeNibble_count {n : Byte} {s : State} (h : s.d62Idx.toNat < 342) :
    (decodeNibble n s).d62Idx.toNat = s.d62Idx.toNat + 1 := by
  simp only [decodeNibble_d62Idx]
  bv_omega

/-- The record after a nibble is of an invalid nibble already consumed, or there is none (R142). -/
theorem decodeNibble_record (n : Byte) {s : State} (h : DecodeInv s) :
    ((decodeNibble n s).inv = true →
      (decodeNibble n s).invIdx.toNat < s.d62Idx.toNat + 1 ∧ l62 (decodeNibble n s).invByte = none) ∧
    ((decodeNibble n s).inv = false → (decodeNibble n s).invByte = 0 ∧ (decodeNibble n s).invIdx = 0) := by
  simp only [decodeNibble_inv, decodeNibble_invIdx, decodeNibble_invByte]
  rcases checkNibble_cases s.d62Idx n s with ⟨same, -⟩ | ⟨invalid, -, recorded⟩
  · rw [same]
    exact ⟨fun hi => (h.invRecord hi).imp_left Nat.lt_succ_of_lt, h.noRecord⟩
  · rw [recorded]
    exact ⟨fun _ => ⟨Nat.lt_succ_self _, invalid⟩, nofun⟩

/-- Every entry the decode has passed is written after its nibble (R139). -/
theorem decodeNibble_written {n : Byte} {s : State} (h : DecodeInv s) (hidx : s.d62Idx.toNat < 342) {j : Nat}
    (hj : 86 + j < s.d62Idx.toNat + 1) : memoryRead (decodeNibble n s).payload (payloadIndex j) ≠ none := by
  rcases decodeNibble_payload n s with ⟨outside, same⟩ | written
  · rw [same]
    exact h.written j (by omega)
  · generalize (decodeNibble n s).payload = m at written
    obtain ⟨k, b, -, hk⟩ := written
    rw [memoryRead_write]
    split
    · simp
    · rename_i other
      have earlier : j ≠ k := fun same => other (congrArg payloadIndex same)
      exact h.written j (by omega)

/-- A decode step keeps the decoder's invariant in every phase that fits its counter (R143). -/
theorem decodeInv_decodeNibble {n : Byte} {s : State} (p : Phase) (h : DecodeInv s) (hidx : s.d62Idx.toNat < 342)
    (decoding : decodePhase p = true → decodeComplete (decodeNibble n s) = false)
    (decoded : afterDecodePhase p = true → decodeComplete (decodeNibble n s) = true ∧ (decodeNibble n s).inv = false) :
    DecodeInv { decodeNibble n s with phase := p } := by
  have count := decodeNibble_count (n := n) hidx
  obtain ⟨record, noRecord⟩ := decodeNibble_record n h
  simp only [decodeComplete, decide_eq_true_eq, decide_eq_false_iff_not, count] at decoding decoded
  constructor
  · simp only [count]
    omega
  · intro hp
    have := decoding hp
    simp only [count]
    omega
  · intro hp
    obtain ⟨complete, valid⟩ := decoded hp
    simp only [count]
    exact ⟨by omega, valid⟩
  · simpa only [count] using record
  · exact noRecord
  · intro j hj
    exact decodeNibble_written h hidx (by simpa only [count] using hj)

theorem decodeInv_finish (k : Kind) {s : State} {p : Phase} (r : Byte) (h : DecodeInv { s with phase := p }) :
    DecodeInv (finish k { s with res := r }) :=
  decodeInv_of_same h (sameDecoder_refl s) nofun nofun

theorem decodeInv_nibble {i : Instr} {s t : State} (h : DecodeInv s) (e : NibbleEffect i s t) : DecodeInv t := by
  cases e with
  | goesOn hu _ => exact hu.decodeInv h
  | completes _ _ _ _ hu _ _ | succeeds hu _ => exact decodeInv_of_same (hu.decodeInv h) (sameDecoder_refl _) nofun nofun
  | acceptsTrack _ hu _ | acceptsAddress _ hu _ _ _ => exact decodeInv_of_same (hu.decodeInv h) (sameDecoder_refl _) nofun nofun
  | readsField _ _ p hu hp =>
    have before : ∀ q ∈ [Phase.aVol, .aTrk, .aSec], ¬ decodePhase q = true ∧ ¬ afterDecodePhase q = true := by decide
    obtain ⟨notIn, notAfter⟩ := before p hp
    exact decodeInv_of_same (hu.decodeInv h) (sameDecoder_refl _) (fun hd => absurd hd notIn) fun ha => absurd ha notAfter
  | passes p hu hp _ =>
    have moves : ∀ move ∈ unguardedMoves, ¬ decodePhase move.2 = true ∧
        (afterDecodePhase move.2 = true → afterDecodePhase move.1 = true) := by decide
    obtain ⟨notIn, after⟩ := moves _ hp
    exact decodeInv_of_same (hu.decodeInv h) (sameDecoder_refl _) (fun hd => absurd hd notIn) fun ha => hu.phase ▸ after ha
  | startsDecode hu _ => exact decodeInv_startDecode rfl
  | decodes n hu hphase more =>
    have hp := hu.phase.symm ▸ hphase
    have hd := hu.decodeInv h
    refine decodeInv_of_same (decodeInv_decodeNibble s.phase hd (hd.decoding hp) (fun _ => more) fun ha => ?_) (sameDecoder_refl _)
      (by simp [hu.phase]) (by simp [hu.phase])
    cases hs : s.phase <;> simp [hs, decodePhase, afterDecodePhase] at hphase ha
  | endsDecode n hu hphase complete valid =>
    have hd := hu.decodeInv h
    exact decodeInv_decodeNibble .dChk hd (hd.decoding (by rw [hu.phase, hphase]; rfl)) nofun fun _ => ⟨complete, valid⟩
  | completesDecode n k r hu hphase _ _ =>
    have hd := hu.decodeInv h
    exact decodeInv_finish k r (decodeInv_decodeNibble .idle hd (hd.decoding (hu.phase.symm ▸ hphase)) nofun nofun)

theorem decodeInv_start {i : Instr} {v : Byte} {s t : State} (h : DecodeInv s) (e : StartEffect i (accept v s) t) :
    DecodeInv t := by
  cases e with
  | completes => exact decodeInv_of_same h (sameDecoder_refl s) nofun nofun
  | startsDecode => exact decodeInv_startDecode rfl
  | starts _ _ _ _ p hu _ hp _ =>
    have before : ∀ q ∈ [Phase.aPro, .xSeek, .xBsrch, .xSkip], ¬ decodePhase q = true ∧ ¬ afterDecodePhase q = true := by
      decide
    obtain ⟨notIn, notAfter⟩ := before p hp
    cases hu
    exact decodeInv_of_same h (sameDecoder_refl s) (fun hd => absurd hd notIn) fun ha => absurd ha notAfter

theorem decodeInv_effect {e : Event} {s t : State} (h : DecodeInv s) (he : Effect e s t) : DecodeInv t := by
  cases he with
  | nothingToDo _ | noWrite _ _ _ => exact h
  | nibbleStep i hr => exact decodeInv_nibble h (nibbleStepOf_effect hr)
  | command i _ => exact decodeInv_start h (startOf_effect i _)
  | illegal v _ _ _ => exact decodeInv_of_same h (sameDecoder_refl s) nofun nofun
  | register index v _ _ => exact decodeInv_of_same h (by simp [sameDecoder]) (by simp) (by simp)
  | ignored _ _ _ _ | read _ _ _ | connect _ => exact decodeInv_of_same h (sameDecoder_refl s) id id
  | reset => constructor <;> simp [assertReset, State.reset, decodePhase, afterDecodePhase]

/-! ## The attempt -/

theorem encodeByte_injective {i j : Instr} (h : encodeByte i = encodeByte j) : i = j := by
  have decoded := decodeByte_encodeByte i
  rw [h, decodeByte_encodeByte] at decoded
  exact (Except.ok.inj decoded).symm

/-- A byte that decodes to no command is ill formed (R104). -/
theorem wellFormed_of_decodeByte_error {v : Byte} {e : Illegal} (h : decodeByte v = .error e) :
    (commandFields v).wellFormed = false := by
  have key : ∀ v : Byte, (decodeByte v).toOption = none → (commandFields v).wellFormed = false := by decide +revert
  exact key v (by rw [h]; rfl)

/-- Before its completion an attempt claims only the checks it has passed. -/
theorem attemptInv_pending {t : State} (ok : t.ok = false) (kind : t.kind = .ok)
    (track : afterTrackPhase t.phase = true → t.afTrk = t.cfgTrack)
    (address : afterAddressPhase t.phase = true → addrOk t.afVol t.afTrk t.afSec t.afChk = true) : AttemptInv t :=
  ⟨track, address, fun h => by simp [ok] at h, by rw [kind]; rfl⟩

/-- A completion of a command that can raise the kind, and that is no success of RDSEC. -/
theorem attemptInv_finish {i : Instr} {k : Kind} {u : State} (hcmd : u.cmd = encodeByte i)
    (hraise : raisedBy k (encodeByte i) = true) (hok : k = .ok → i ≠ .rdsec) : AttemptInv (finish k u) := by
  refine ⟨nofun, nofun, fun success rdsec => ?_, hcmd ▸ hraise⟩
  exact absurd (encodeByte_injective (hcmd.symm.trans rdsec)) (hok (by simpa using success))

theorem Consumes.attemptInv {s u : State} (hu : Consumes s u) (h : AttemptInv s) : AttemptInv u := by
  cases hu
  exact ⟨h.trackPassed, h.addressPassed, h.sector, h.raised⟩

/-- A running command that has consumed a nibble and written no status register. -/
theorem attemptInv_moved {s u t : State} (hok : s.ok = false) (hkind : s.kind = .ok) (hu : Consumes s u)
    (same : sameStatus u t) (track : afterTrackPhase t.phase = true → t.afTrk = t.cfgTrack)
    (address : afterAddressPhase t.phase = true → addrOk t.afVol t.afTrk t.afSec t.afChk = true) : AttemptInv t := by
  obtain ⟨-, -, -, ok, -, kind⟩ := hu.status
  obtain ⟨-, -, -, ok', -, kind'⟩ := same
  exact attemptInv_pending (ok'.trans (ok.trans hok)) (kind'.trans (kind.trans hkind)) track address

theorem attemptInv_nibble {i : Instr} {s t : State} (h : Inv s) (hr : runningIn i s = true) (e : NibbleEffect i s t) :
    AttemptInv t := by
  obtain ⟨-, hcmd, -⟩ := (runningIn_iff i s).mp hr
  obtain ⟨-, hok, hkind, -⟩ := h.status.pending_of_running hr
  cases e with
  | goesOn hu _ => exact hu.attemptInv h.attempt
  | completes k _ _ _ hu hraise hk =>
    obtain ⟨cmd, -, -, -, -, -⟩ := hu.status
    exact attemptInv_finish (cmd.trans hcmd) hraise hk
  | completesDecode n k _ hu _ hraise hk =>
    obtain ⟨cmd, -, -, -, -, -⟩ := hu.status
    exact attemptInv_finish ((decodeNibble_cmd n _).trans (cmd.trans hcmd)) hraise hk
  | succeeds hu hs =>
    obtain ⟨-, hpassed, -, -⟩ := hu.attemptInv h.attempt
    obtain ⟨-, -, hdecoded, -, -, -⟩ := hu.decodeInv h.decode
    obtain ⟨complete, valid⟩ := hdecoded (by rw [hu.phase, hs]; rfl)
    exact ⟨nofun, nofun, fun _ _ => ⟨hpassed (by rw [hu.phase, hs]; rfl), complete, valid, rfl⟩, rfl⟩
  | readsField _ _ p hu hp =>
    have before : ∀ q ∈ [Phase.aVol, .aTrk, .aSec], ¬ afterTrackPhase q = true ∧ ¬ afterAddressPhase q = true := by decide
    obtain ⟨noTrack, noAddress⟩ := before p hp
    exact attemptInv_moved hok hkind hu (sameStatus_refl _) (fun ha => absurd ha noTrack) fun ha => absurd ha noAddress
  | acceptsTrack _ hu track =>
    exact attemptInv_moved hok hkind hu (sameStatus_refl _) (fun _ => track) nofun
  | acceptsAddress _ hu hs address _ =>
    obtain ⟨track, -, -, -⟩ := hu.attemptInv h.attempt
    exact attemptInv_moved hok hkind hu (sameStatus_refl _) (fun _ => track (by rw [hu.phase, hs]; rfl)) fun _ => address
  | passes p hu hp _ =>
    obtain ⟨track, address, -, -⟩ := hu.attemptInv h.attempt
    have after : ∀ move ∈ unguardedMoves, afterTrackPhase move.1 = true ∧ afterAddressPhase move.1 = true := by decide
    obtain ⟨afterTrack, afterAddress⟩ := after _ hp
    exact attemptInv_moved hok hkind hu (sameStatus_refl _) (fun _ => track (hu.phase.symm ▸ afterTrack))
      fun _ => address (hu.phase.symm ▸ afterAddress)
  | startsDecode hu hs =>
    obtain ⟨track, address, -, -⟩ := hu.attemptInv h.attempt
    exact attemptInv_moved hok hkind hu (sameStatus_refl _) (fun _ => track (by rw [hu.phase, hs]; rfl))
      fun _ => address (by rw [hu.phase, hs]; rfl)
  | decodes n hu _ _ =>
    obtain ⟨track, address, -, -⟩ := hu.attemptInv h.attempt
    exact attemptInv_moved hok hkind hu (by simp [sameStatus]) (by simpa using track) (by simpa using address)
  | endsDecode n hu hs _ _ =>
    obtain ⟨track, address, -, -⟩ := hu.attemptInv h.attempt
    refine attemptInv_moved hok hkind hu (by simp [sameStatus]) (fun _ => ?_) fun _ => ?_
    · simpa using track (by rw [hu.phase, hs]; rfl)
    · simpa using address (by rw [hu.phase, hs]; rfl)

theorem attemptInv_start {i : Instr} {s t : State} (e : StartEffect i (accept (encodeByte i) s) t) : AttemptInv t := by
  cases e with
  | completes k _ combinational hraise =>
    refine attemptInv_finish rfl hraise fun _ rdsec => ?_
    rw [rdsec] at combinational
    cases combinational
  | startsDecode => exact attemptInv_pending rfl rfl nofun nofun
  | starts _ _ _ _ p hu _ hp _ =>
    have before : ∀ q ∈ [Phase.aPro, .xSeek, .xBsrch, .xSkip], ¬ afterTrackPhase q = true ∧ ¬ afterAddressPhase q = true := by
      decide
    obtain ⟨noTrack, noAddress⟩ := before p hp
    cases hu
    exact attemptInv_pending rfl rfl (fun ha => absurd ha noTrack) fun ha => absurd ha noAddress

theorem attemptInv_effect {e : Event} {s t : State} (h : Inv s) (he : Effect e s t) : AttemptInv t := by
  obtain ⟨track, address, sector, raised⟩ := h.attempt
  cases he with
  | nothingToDo _ | noWrite _ _ _ => exact h.attempt
  | nibbleStep i hr => exact attemptInv_nibble h hr (nibbleStepOf_effect hr)
  | command i _ => exact attemptInv_start (startOf_effect i _)
  | illegal v _ _ he => exact ⟨nofun, nofun, nofun, by simp [illegalCommand, raisedBy, wellFormed_of_decodeByte_error he]⟩
  | register index v idle _ =>
    have hidle : s.phase = .idle := by simpa [idle] using h.status.busyPhase
    refine ⟨fun hp => ?_, by simpa using address, by simpa using sector, by simpa using raised⟩
    rw [writeRegister_phase, hidle] at hp
    cases hp
  | ignored _ _ _ _ | read _ _ _ | connect _ => exact ⟨track, address, sector, raised⟩
  | reset => exact ⟨nofun, nofun, nofun, rfl⟩

/-! ## The whole invariant -/

theorem inv_effect {e : Event} {s t : State} (h : Inv s) (he : Effect e s t) : Inv t :=
  ⟨statusInv_effect h.status he, searchInv_effect h.search he, payloadInv_effect h.payload he, decodeInv_effect h.decode he,
    attemptInv_effect h he⟩

/-- Taking the event from the agenda changes no register. -/
theorem inv_popEvent {s : State} (h : Inv s) : Inv (popEvent s) := by
  obtain ⟨status, search, payload, decode, attempt⟩ := h
  exact ⟨statusInv_popEvent status, ⟨search.windowPositive, search.winShort, search.countInWindow⟩,
    ⟨payload.sorted, payload.inRange⟩, decodeInv_of_same decode (sameDecoder_refl s) id id,
    ⟨attempt.trackPassed, attempt.addressPassed, attempt.sector, attempt.raised⟩⟩

/-- Settles O55: every effect of an event keeps each part of the invariant. -/
theorem stepKeepsTheInvariant : Obligations.StepKeepsTheInvariant :=
  fun _ _ h hstep => inv_effect (inv_popEvent h) (step_effect hstep)

end Sys2Proof.Machine
end

section
/-! The register index space and the host's accesses (R21, R22, R24, R28, R48, R78). -/

namespace Sys2Proof.Machine

/-- Settles O1: each register of State.reset, read from its definition. -/
theorem resetLeavesTheStatedRegisters : Obligations.ResetLeavesTheStatedRegisters := by
  unfold Obligations.ResetLeavesTheStatedRegisters resetRegisters
  decide

/-- Settles O54: the five parts of the invariant at State.reset, where the block is idle and no nibble has been consumed. -/
theorem resetMeetsTheInvariant : Obligations.ResetMeetsTheInvariant where
  status := ⟨by decide, by decide, nofun, fun _ => ⟨rfl, rfl, rfl⟩, nofun⟩
  search := ⟨by decide, by decide, nofun⟩
  payload := ⟨reset_payload_form.1, reset_payload_form.2⟩
  decode := ⟨by decide, nofun, nofun, nofun, fun _ => ⟨rfl, rfl⟩, fun j hj => absurd hj (by simp [State.reset])⟩
  attempt := ⟨nofun, nofun, nofun, rfl⟩

theorem accessOf_readOnly_iff (i : Nat) :
    accessOf i = .readOnly ↔ 0x001 ≤ i ∧ i ≤ 0x003 ∨ 0x015 ≤ i ∧ i ≤ 0x01D ∨ 0x100 ≤ i := by
  unfold accessOf
  (repeat' split) <;> simp <;> omega

/-- Settles O3: the registers by the definition of a read, the two ranges by the laws of the index space. -/
theorem registerIndexMap : Obligations.RegisterIndexMap := by
  intro s
  refine ⟨⟨rfl, rfl, rfl, rfl, rfl, rfl, rfl, rfl, rfl⟩, ⟨rfl, rfl, rfl, rfl, rfl, rfl, rfl, rfl, rfl, rfl, rfl, rfl⟩,
    ⟨rfl, rfl, rfl, rfl, rfl, rfl, rfl, rfl, rfl⟩, readIndex_reserved s, fun j b _ hb => ?_, rfl, ?_, ?_, ?_, ?_, ?_⟩
  · rw [readIndex_payload, hb]
  all_goals
    intro i lo hi
    simp only [accessOf_readOnly_iff, accessOf_readWrite_iff, accessOf_reserved_iff]
    omega

/-- The fields of a byte put together as STATUS is (R24). -/
theorem statusFields_of_append : ∀ (sev : BitVec 2) (wbusy ok done busy : Bool) (b : Byte),
    b = 0#2 ++ sev ++ BitVec.ofBool wbusy ++ BitVec.ofBool ok ++ BitVec.ofBool done ++ BitVec.ofBool busy →
    b.getLsbD 0 = busy ∧ b.getLsbD 1 = done ∧ b.getLsbD 2 = ok ∧ b.getLsbD 3 = wbusy ∧
      b.extractLsb' 4 2 = sev ∧ b.extractLsb' 6 2 = 0 := by
  rintro sev wbusy ok done busy - rfl
  decide +revert

/-- A value of four bits widened to a byte stands in its low bits (R30). -/
theorem setWidth_fields_four : ∀ c : BitVec 4, (c.setWidth 8).extractLsb' 0 4 = c ∧ (c.setWidth 8).extractLsb' 4 4 = 0 := by decide

/-- A value of six bits widened to a byte stands in its low bits (R36). -/
theorem setWidth_fields_six : ∀ c : Sym, (c.setWidth 8).extractLsb' 0 6 = c ∧ (c.setWidth 8).extractLsb' 6 2 = 0 := by decide

/-- The fields of a byte put together as INV_IDX_HI is (R37). -/
theorem invIdxHiFields_of_append : ∀ (inv : Bool) (top : BitVec 1) (b : Byte), b = BitVec.ofBool inv ++ 0#6 ++ top →
    b.getLsbD 0 = top.getLsbD 0 ∧ b.extractLsb' 1 6 = 0 ∧ b.getLsbD 7 = inv := by
  rintro inv top - rfl
  decide +revert

/-- Settles O4: STATUS and INV_IDX_HI are concatenations of their fields, the other bytes widenings or slices of theirs. -/
theorem registerFields : Obligations.RegisterFields := by
  refine ⟨fun s => ?_, by decide, by decide⟩
  obtain ⟨busy, done, ok, wbusy, sev, reserved⟩ :=
    statusFields_of_append (severityCode s.sev) s.wbusy s.ok s.done s.busy (statusByte s) rfl
  obtain ⟨kind, kindHigh⟩ := setWidth_fields_four (kindCode s.kind)
  obtain ⟨chk, chkHigh⟩ := setWidth_fields_six s.d62Chk
  obtain ⟨idx, zero, inv⟩ := invIdxHiFields_of_append s.inv (s.invIdx.extractLsb' 8 1) (invIdxHi s) rfl
  refine ⟨busy, done, ok, wbusy, sev, reserved, kind, kindHigh, chk, chkHigh, fun k hk => ?_, ?_, zero, inv⟩
  · simp [invIdxLo, hk]
  · simpa using idx

theorem hostWrite_noWrite {i : Nat} {v : Byte} {s : State} (hi : i < 0x200)
    (ha : accessOf i = .readOnly ∨ accessOf i = .reserved) : hostWrite i v s = .next s := by
  rw [hostWrite, if_neg (by omega)]
  rcases ha with ha | ha <;> rw [ha]

theorem hostWrite_busy {i : Nat} {v : Byte} {s : State} (hi : i < 0x200)
    (ha : accessOf i = .command ∨ accessOf i = .readWrite) (hb : s.busy = true) : hostWrite i v s = .next (ignoreWrite s) := by
  rw [hostWrite, if_neg (by omega)]
  rcases ha with ha | ha <;> simp [ha, hb]

theorem hostWrite_register {i : Nat} {v : Byte} {s : State} (ha : accessOf i = .readWrite) (hb : s.busy = false) :
    hostWrite i v s = .next (writeRegister i v s) := by
  obtain ⟨-, hi⟩ := (accessOf_readWrite_iff i).mp ha
  rw [hostWrite, if_neg (by omega), ha]
  simp [hb]

theorem hostRead_ok {i : Nat} {b : Byte} {s : State} (hi : i < 0x200) (hr : readIndex s i = .ok b) :
    hostRead i s = .next { s with reads := (i, b) :: s.reads } := by
  rw [hostRead, if_neg (by omega), hr]

/-- The step of the first event listed. -/
theorem step_cons {s : State} {e : Event} {rest : List Event} (h : s.agenda = e :: rest) :
    step s = doEvent e { s with agenda := rest } := by
  rw [step, nextEvent, h]

/-- Settles O6: an event of the host, case by case of its access. -/
theorem hostAccessRule : Obligations.HostAccessRule := by
  refine fun s rest => ⟨fun i v h hi ha => ?_, fun i v h hi ha hb => ?_, readIndex_reserved s, fun i b h hi hr => ?_⟩
  · rw [step_cons h]
    exact hostWrite_noWrite hi ha
  · rw [step_cons h]
    exact hostWrite_busy hi ha hb
  · rw [step_cons h]
    exact hostRead_ok hi ((readIndex_agenda s rest i).trans hr)

/-- Settles O10: the write is of one register, which its index alone reads. -/
theorem idleWriteStoresTheByte : Obligations.IdleWriteStoresTheByte := by
  intro s rest i v h hb ha
  obtain ⟨lo, hi⟩ := (accessOf_readWrite_iff i).mp ha
  refine ⟨writeRegister i v { s with agenda := rest }, ?_, ?_, fun k hk => ?_, by simp, by simp [sameMatcher],
    by simp [sameDecoder], by simp, by simp, by simp, by simp⟩
  · rw [step_cons h]
    exact hostWrite_register ha hb
  · rw [readIndex_writeRegister _ i i v lo hi, if_pos rfl]
  · rw [readIndex_writeRegister _ i k v lo hi, if_neg hk, readIndex_agenda]

end Sys2Proof.Machine
end

section
/-! Rules of the whole machine: WBUSY, the frame of a command, and which command a step runs (R23, R28, R34 to R40, R262). -/

namespace Sys2Proof.Machine

theorem startOf_wbusy (i : Instr) (s : State) : (startOf i s).wbusy = s.wbusy := by
  obtain ⟨-, h, -⟩ := startOf_frame i s
  exact h

theorem nibbleStepOf_wbusy (i : Instr) (s : State) : (nibbleStepOf i s).wbusy = s.wbusy := by
  obtain ⟨-, h, -⟩ := nibbleStepOf_frame i s
  exact h

/-- The event is a host write that a busy block ignores (R28, R78). -/
def ignoredWrite (e : Event) (s : State) : Prop :=
  s.busy = true ∧ ∃ i v, e = .write i v ∧ (accessOf i = .command ∨ accessOf i = .readWrite)

/-- The event is reset or the CMD write that an idle block accepts (R23, R28). -/
def resetOrAcceptance (e : Event) (s : State) : Prop := e = .reset ∨ s.busy = false ∧ ∃ v, e = .write 0x000 v

theorem not_ignoredWrite_of_resetOrAcceptance {e : Event} {s : State} (h : resetOrAcceptance e s) : ¬ ignoredWrite e s := by
  rintro ⟨hb, i, v, hwrite, -⟩
  rcases h with hreset | ⟨idle, -⟩
  · rw [hreset] at hwrite
    cases hwrite
  · rw [hb] at idle
    cases idle

/-- What an event does to WBUSY (R28): an ignored write sets it, reset and acceptance clear it, and nothing else touches it. -/
theorem effect_wbusy {e : Event} {s t : State} (he : Effect e s t) :
    ignoredWrite e s ∧ t.wbusy = true ∨ resetOrAcceptance e s ∧ t.wbusy = false ∨
      ¬ ignoredWrite e s ∧ ¬ resetOrAcceptance e s ∧ t.wbusy = s.wbusy := by
  cases he with
  | ignored i v hb ha => exact .inl ⟨⟨hb, i, v, rfl, ha⟩, rfl⟩
  | reset => exact .inr (.inl ⟨.inl rfl, rfl⟩)
  | command i hb => exact .inr (.inl ⟨.inr ⟨hb, _, rfl⟩, startOf_wbusy i _⟩)
  | illegal v _ hb _ => exact .inr (.inl ⟨.inr ⟨hb, v, rfl⟩, rfl⟩)
  | nibbleStep i _ => exact .inr (.inr ⟨by simp [ignoredWrite], by simp [resetOrAcceptance], nibbleStepOf_wbusy i s⟩)
  | nothingToDo _ | read _ _ _ | connect _ => exact .inr (.inr ⟨by simp [ignoredWrite], by simp [resetOrAcceptance], rfl⟩)
  | register i v hb ha =>
    refine .inr (.inr ⟨by simp [ignoredWrite, hb], ?_, writeRegister_wbusy i v s⟩)
    rintro (hreset | ⟨-, w, hwrite⟩)
    · cases hreset
    · cases hwrite
      cases ha
  | noWrite i v ha =>
    refine .inr (.inr ⟨?_, ?_, rfl⟩)
    · rintro ⟨-, j, w, hwrite, hj⟩
      cases hwrite
      rcases ha with ha | ha <;> simp [ha] at hj
    · rintro (hreset | ⟨-, w, hwrite⟩)
      · cases hreset
      · cases hwrite
        rcases ha with ha | ha <;> cases ha

/-- Settles O11: the three things an event can do to WBUSY, against the four clauses. -/
theorem wbusyRule : Obligations.WbusyRule := by
  intro s t hstep
  rcases effect_wbusy (step_effect hstep) with ⟨ignored, set⟩ | ⟨clears, cleared⟩ | ⟨notIgnored, notCleared, same⟩
  · refine ⟨fun _ _ _ _ _ => set, fun _ _ => ignored, fun clears => ?_, fun _ cleared => by simp [set] at cleared⟩
    exact absurd ignored (not_ignoredWrite_of_resetOrAcceptance clears)
  · refine ⟨fun hb i v hwrite ha => ?_, fun _ set => by simp [cleared] at set, fun _ => cleared, fun _ _ => clears⟩
    exact absurd ⟨hb, i, v, hwrite, ha⟩ (not_ignoredWrite_of_resetOrAcceptance clears)
  · refine ⟨fun hb i v hwrite ha => absurd ⟨hb, i, v, hwrite, ha⟩ notIgnored, fun clear set => ?_,
      fun clears => absurd clears notCleared, fun set clear => ?_⟩
    · have clear' : t.wbusy = false := same.trans clear
      simp [clear'] at set
    · have set' : t.wbusy = true := same.trans set
      simp [set'] at clear

/-! ## The frame of a command -/

/-- The three things exec can do. -/
theorem exec_cases {i : Instr} {s t : State} (h : exec i s = .next t) :
    runningIn i s = true ∧ t = nibbleStepOf i s ∨ t = ignoreWrite s ∨ t = startOf i (accept (encodeByte i) s) := by
  rw [exec_eq] at h
  split at h
  · rename_i hr
    cases h
    exact .inl ⟨hr, rfl⟩
  · split at h <;> cases h
    · exact .inr (.inl rfl)
    · exact .inr (.inr rfl)

theorem startOf_matcher {i : Instr} (s : State) (h : i.streaming = false) : sameMatcher s (startOf i s) := by
  have effect := startOf_effect i s
  generalize startOf i s = t at effect
  cases effect with
  | completes => exact ⟨rfl, rfl, rfl, rfl, rfl⟩
  | starts _ _ _ _ _ _ hp _ _ =>
    rw [streaming_of_mem_phasesOf hp] at h
    cases h
  | startsDecode => cases h

/-- Settles O15: the frame of a nibble step, of an ignored issue and of an acceptance. -/
theorem eachCommandWritesOnlyItsRegisters : Obligations.EachCommandWritesOnlyItsRegisters := by
  intro i s t h
  rcases exec_cases h with ⟨hr, rfl⟩ | rfl | rfl
  · refine ⟨nibbleStepOf_sameInputs i s, nibbleStepOf_addressField i s, nibbleStepOf_decoder i s, fun combinational => ?_⟩
    obtain ⟨-, -, hp⟩ := (runningIn_iff i s).mp hr
    rw [streaming_of_mem_phasesOf hp] at combinational
    cases combinational
  · simp [sameInputs, sameAddressField, sameDecoder, sameMatcher]
  · exact ⟨startOf_accept_sameInputs i _ s, startOf_addressField i (accept _ s), fun _ => startOf_decoder i (accept _ s),
      startOf_matcher (accept _ s)⟩

/-! ## The command a step runs -/

theorem hostWrite_command {v : Byte} {i : Instr} {s : State} (hb : s.busy = false) (hv : decodeByte v = .ok i) :
    hostWrite 0x000 v s = exec i s := by
  simp [hostWrite, accessOf, hb, issueByte, hv]

theorem blockTurn_running {i : Instr} {s : State} (hr : runningIn i s = true) : blockTurn s = exec i s := by
  rw [blockTurn, runningCommand_eq_some.mpr hr]

theorem step_nil {s : State} (h : s.agenda = []) : step s = blockTurn s := by
  rw [step, nextEvent, h]

/-- A table word is decoded from its first byte alone (R106). -/
theorem decodeByte_of_decodeTableWord {nbits w : Nat} {i : Instr} (h : decodeTableWord nbits w = some i) :
    decodeByte (BitVec.ofNat 8 w) = .ok i := by
  obtain ⟨n, hn⟩ : ∃ n, max 1 ((nbits + 7) / 8) = n + 1 := ⟨max 1 ((nbits + 7) / 8) - 1, by omega⟩
  rw [decodeTableWord, tableBytes, hn, List.range_succ_eq_map] at h
  simp only [List.map_cons, decode, Nat.mul_zero, Nat.shiftRight_zero] at h
  cases hv : decodeByte (BitVec.ofNat 8 w) with
  | error e => simp [hv, Except.map, Except.toOption] at h
  | ok j =>
    simp only [hv, Except.map, Except.toOption, Option.map_some, Option.some.injEq] at h
    rw [h]

/-- Settles O17: an issue and a turn reach exec by the command decoded from the byte and from CMD. -/
theorem stepRunsTheDecodedCommand : Obligations.StepRunsTheDecodedCommand := by
  refine fun s i => ⟨fun rest v h hb hv => ?_, fun h hr => ?_, fun rest h hr => ?_, fun nbits w h => ?_, fun h hnone => ?_⟩
  · rw [step_cons h]
    exact hostWrite_command hb hv
  · rw [step_nil h, blockTurn_running hr]
  · rw [step_cons h]
    exact blockTurn_running hr
  · have placed : (s.withFetchWord nbits w).agenda = .write 0x000 (BitVec.ofNat 8 w) :: s.agenda := rfl
    rw [step_cons placed]
    exact hostWrite_command rfl (decodeByte_of_decodeTableWord h)
  · rw [step_nil h, blockTurn, hnone]

/-- Settles O58: the decode has passed all 342 nibbles, so every entry is written. -/
theorem successLeavesAReadableSector : Obligations.SuccessLeavesAReadableSector := by
  intro s h hok hcmd
  obtain ⟨address, complete, valid, sector⟩ := h.attempt.sector hok hcmd
  refine ⟨fun j hj => ?_, by simpa [addrOk] using address, valid, sector⟩
  obtain ⟨b, hb⟩ := Option.ne_none_iff_exists'.mp (h.decode.written j (by omega))
  have read : memoryRead s.payload (0x100 + j) = some b := hb
  exact ⟨b, by rw [readIndex_payload, read]⟩

end Sys2Proof.Machine
end

section
/-! Which host accesses stop a step (R60, R253, 90 C6): every other event, and with it every command and every failure, answers a next
state (R225). -/

namespace Sys2Proof.Machine

theorem hostWrite_outside {i : Nat} (v : Byte) (s : State) (hi : 0x200 ≤ i) :
    hostWrite i v s = .refused (.indexOutsideSpace i) := by
  rw [hostWrite, if_pos hi]

theorem hostRead_outside {i : Nat} (s : State) (hi : 0x200 ≤ i) : hostRead i s = .refused (.indexOutsideSpace i) := by
  rw [hostRead, if_pos hi]

theorem hostRead_error {i : Nat} {f : Fault} {s : State} (hi : i < 0x200) (hr : readIndex s i = .error f) :
    hostRead i s = .fault f := by
  rw [hostRead, if_neg (by omega), hr]

theorem hostRead_unwritten {j : Nat} {s : State} (hj : j < 256) (h : memoryRead s.payload (0x100 + j) = none) :
    hostRead (0x100 + j) s = .fault (.payloadUnwritten (0x100 + j)) :=
  hostRead_error (by omega) (by rw [readIndex_payload, h])

/-- Settles O7: an event of the host, case by case of its index. -/
theorem hostAccessesThatStop : Obligations.HostAccessesThatStop := by
  refine fun s rest => ⟨fun i v h hi => ?_, fun i h hi => ?_, fun j hj h unwritten => ?_⟩ <;> rw [step_cons h]
  · exact hostWrite_outside v _ hi
  · exact hostRead_outside _ hi
  · exact hostRead_unwritten hj unwritten

/-- No command stops the machine (R225). -/
theorem exec_answers (i : Instr) (s : State) : ∃ t, exec i s = .next t := by
  rw [exec_eq]
  split
  · exact ⟨_, rfl⟩
  · split <;> exact ⟨_, rfl⟩

theorem issueByte_answers (v : Byte) (s : State) : ∃ t, issueByte v s = .next t := by
  unfold issueByte
  split
  · exact exec_answers _ s
  · exact ⟨_, rfl⟩

theorem blockTurn_answers (s : State) : ∃ t, blockTurn s = .next t := by
  unfold blockTurn
  split
  · exact exec_answers _ s
  · exact ⟨_, rfl⟩

theorem hostWrite_answers {i : Nat} (v : Byte) (s : State) (hi : i < 0x200) : ∃ t, hostWrite i v s = .next t := by
  rw [hostWrite, if_neg (by omega)]
  cases accessOf i with
  | readOnly | reserved => exact ⟨s, rfl⟩
  | command | readWrite =>
    cases hb : s.busy with
    | true => exact ⟨ignoreWrite s, by simp⟩
    | false => simp [issueByte_answers]

/-- A read within the index space finds a byte, or a PAYLOAD entry never written (R22, R253). -/
theorem readIndex_cases (s : State) {i : Nat} (hi : i < 0x200) :
    (∃ b, readIndex s i = .ok b) ∨ ∃ j < 256, i = 0x100 + j ∧ memoryRead s.payload i = none := by
  rcases Nat.lt_or_ge i 0x100 with low | high
  · exact .inl (readIndex_low s i (by omega))
  · obtain ⟨j, rfl⟩ := Nat.exists_eq_add_of_le high
    rw [readIndex_payload]
    cases h : memoryRead s.payload (0x100 + j) with
    | some b => exact .inl ⟨b, rfl⟩
    | none => exact .inr ⟨j, by omega, rfl, rfl⟩

/-- What one event can answer: a next state, the fault of an unwritten PAYLOAD entry, or the refusal of an index outside the space. -/
theorem doEvent_cases (e : Event) (s : State) :
    (∃ t, doEvent e s = .next t) ∨
    (∃ j < 256, e = .read (0x100 + j) ∧ memoryRead s.payload (0x100 + j) = none ∧
      doEvent e s = .fault (.payloadUnwritten (0x100 + j))) ∨
    ∃ i, 0x200 ≤ i ∧ (e = .read i ∨ ∃ v, e = .write i v) ∧ doEvent e s = .refused (.indexOutsideSpace i) := by
  cases e with
  | reset | connect => exact .inl ⟨_, rfl⟩
  | turn => exact .inl (blockTurn_answers s)
  | write i v =>
    rcases Nat.lt_or_ge i 0x200 with inside | outside
    · exact .inl (hostWrite_answers v s inside)
    · exact .inr (.inr ⟨i, outside, .inr ⟨v, rfl⟩, hostWrite_outside v s outside⟩)
  | read i =>
    rcases Nat.lt_or_ge i 0x200 with inside | outside
    · rcases readIndex_cases s inside with ⟨b, hb⟩ | ⟨j, hj, rfl, unwritten⟩
      · exact .inl ⟨_, hostRead_ok inside hb⟩
      · exact .inr (.inl ⟨j, hj, rfl, unwritten, hostRead_unwritten hj unwritten⟩)
    · exact .inr (.inr ⟨i, outside, .inl rfl, hostRead_outside s outside⟩)

/-- Settles O8: a step is its event, and an event that stops is one of the two accesses. -/
theorem nothingElseStopsAStep : Obligations.NothingElseStopsAStep := by
  intro s
  rw [step_eq]
  rcases doEvent_cases (eventOf s) (popEvent s) with ⟨t, answer⟩ | ⟨j, hj, read, unwritten, answer⟩ | ⟨i, hi, access, answer⟩ <;>
    rw [answer]
  · exact ⟨nofun, nofun⟩
  · exact ⟨fun f hf => ⟨j, hj, read, unwritten, by cases hf; rfl⟩, nofun⟩
  · exact ⟨nofun, fun r hr => ⟨i, hi, by cases hr; rfl, access⟩⟩

end Sys2Proof.Machine
end

section
/-! The stream port (R63 to R65, R183, R262): every nibble step is one `Next()`, so a running command takes at most one offer, and waits
while there is none. -/

namespace Sys2Proof.Machine

/-- `t` is one `Next()` of `s`: at EOS a completion, and with a byte a continuation that leaves the cursor where the byte did. -/
def takesOneOffer (s t : State) : Prop :=
  ∃ (k : Kind) (g : Byte → State → State), (∀ b u, (g b u).stream = u.stream) ∧ t = onNext (finish k) g s

theorem onNext_takesOneOffer {s : State} {k : Kind} {g : Byte → State → State} (hg : ∀ b u, (g b u).stream = u.stream) :
    takesOneOffer s (onNext (finish k) g s) := ⟨k, g, hg, rfl⟩

theorem seekStep_takesOneOffer {s : State} {p : List Byte} {k : Kind} {found : State → State}
    (hfound : ∀ u, (found u).stream = u.stream) : takesOneOffer s (seekStep p (finish k) found s) := by
  refine onNext_takesOneOffer fun b u => ?_
  dsimp only
  split
  · exact hfound _
  · rfl

theorem searchStep_takesOneOffer {s : State} {p : List Byte} {found missed : State → State}
    (hfound : ∀ u, (found u).stream = u.stream) (hmissed : ∀ u, (missed u).stream = u.stream) :
    takesOneOffer s (searchStep p found missed s) := by
  refine onNext_takesOneOffer fun b u => ?_
  dsimp only
  split
  · exact hfound _
  · split
    · exact hmissed _
    · rfl

theorem pairStep_takesOneOffer {s : State} {decoded : Byte → State → State} (hdecoded : ∀ x u, (decoded x u).stream = u.stream) :
    takesOneOffer s (pairStep decoded s) := by
  refine onNext_takesOneOffer fun b u => ?_
  split
  · exact hdecoded _ _
  · rfl

theorem decodeStep_takesOneOffer {s : State} {ended : State → State} (hended : ∀ u, (ended u).stream = u.stream) :
    takesOneOffer s (decodeStep ended s) := by
  refine onNext_takesOneOffer fun n u => ?_
  dsimp only
  split
  · exact (hended _).trans (decodeNibble_stream n u)
  · exact decodeNibble_stream n u

theorem seekCommandStep_takesOneOffer (p : Pattern) (s : State) : takesOneOffer s (seekCommandStep p s) :=
  seekStep_takesOneOffer fun _ => rfl

theorem bsrchCommandStep_takesOneOffer (p : Pattern) (s : State) : takesOneOffer s (bsrchCommandStep p s) :=
  searchStep_takesOneOffer (fun _ => rfl) fun _ => rfl

theorem skipStep_takesOneOffer (s : State) : takesOneOffer s (skipStep s) := onNext_takesOneOffer fun _ _ => rfl

theorem d62Step_takesOneOffer (s : State) : takesOneOffer s (d62Step s) := decodeStep_takesOneOffer fun _ => rfl

/-! ## RDSEC's checks leave the cursor alone -/

theorem rdsecTrackCheck_stream (s : State) : (rdsecTrackCheck s).stream = s.stream := by
  unfold rdsecTrackCheck
  split <;> rfl

theorem rdsecAddressCheck_stream (s : State) : (rdsecAddressCheck s).stream = s.stream := by
  unfold rdsecAddressCheck
  split <;> rfl

theorem rdsecDataEnded_stream (s : State) : (rdsecDataEnded s).stream = s.stream := by
  unfold rdsecDataEnded
  split <;> rfl

theorem rdsecTrailing_stream (t : Byte) (s : State) : (rdsecTrailing t s).stream = s.stream := by
  unfold rdsecTrailing
  split
  · rfl
  · split <;> rfl

/-- In each of its phases RDSEC's step is one `Next()` (R181). -/
theorem rdsecStep_takesOneOffer {s : State} (hp : s.phase ∈ phasesOf .rdsec) : takesOneOffer s (rdsecStep s) := by
  cases hs : s.phase
  case aPro => exact rdsecStep_aPro hs ▸ seekStep_takesOneOffer fun _ => rfl
  case aVol => exact rdsecStep_aVol hs ▸ pairStep_takesOneOffer fun _ _ => rfl
  case aTrk => exact rdsecStep_aTrk hs ▸ pairStep_takesOneOffer fun _ _ => rfl
  case aSec => exact rdsecStep_aSec hs ▸ pairStep_takesOneOffer fun _ _ => rdsecTrackCheck_stream _
  case aChk => exact rdsecStep_aChk hs ▸ pairStep_takesOneOffer fun _ _ => rdsecAddressCheck_stream _
  case aEpi => exact rdsecStep_aEpi hs ▸ searchStep_takesOneOffer (fun _ => rfl) fun _ => rfl
  case aEpi3 => exact rdsecStep_aEpi3 hs ▸ onNext_takesOneOffer fun _ _ => rfl
  case dSync => exact rdsecStep_dSync hs ▸ searchStep_takesOneOffer (fun _ => rfl) fun _ => rfl
  case dPro => exact rdsecStep_dPro hs ▸ searchStep_takesOneOffer (fun _ => rfl) fun _ => rfl
  case dData => exact rdsecStep_dData hs ▸ decodeStep_takesOneOffer rdsecDataEnded_stream
  case dChk => exact rdsecStep_dChk hs ▸ onNext_takesOneOffer rdsecTrailing_stream
  case dEpi => exact rdsecStep_dEpi hs ▸ searchStep_takesOneOffer (fun _ => rfl) fun _ => rfl
  case dEpi3 => exact rdsecStep_dEpi3 hs ▸ onNext_takesOneOffer fun _ _ => rfl
  case idle | xSeek | xBsrch | xSkip | xD62 => simp [hs, phasesOf] at hp

/-- A turn of a running command is one `Next()` (R262). -/
theorem nibbleStepOf_takesOneOffer {i : Instr} {s : State} (hr : runningIn i s = true) : takesOneOffer s (nibbleStepOf i s) := by
  obtain ⟨-, -, hp⟩ := (runningIn_iff i s).mp hr
  cases i
  case nop | d44 | l62 | cka | ckd | ckt => simp [phasesOf] at hp
  case rdsec => exact rdsecStep_takesOneOffer hp
  case d62 => exact d62Step_takesOneOffer s
  case skip => exact skipStep_takesOneOffer s
  case seekApro | seekAepi | seekDpro | seekDepi | seekSync => exact seekCommandStep_takesOneOffer _ s
  case bsrchApro | bsrchAepi | bsrchDpro | bsrchDepi | bsrchSync => exact bsrchCommandStep_takesOneOffer _ s

/-- Settles O18: with nothing to take, `Next()` does nothing. -/
theorem runningCommandWaitsForAnOffer : Obligations.RunningCommandWaitsForAnOffer := by
  intro i s hr
  obtain ⟨k, g, -, taken⟩ := nibbleStepOf_takesOneOffer hr
  rw [exec_running hr, taken]
  exact ⟨fun h => by rw [onNext_waits h], fun rest h => by rw [onNext_nothing h]⟩

/-- A `Next()` that changes the stream has used up its first offer, which is not EOS (R65). -/
theorem stream_of_takesOneOffer {s t : State} (h : takesOneOffer s t) (changed : t.stream ≠ s.stream) :
    ∃ o, o ≠ Offer.eos ∧ s.stream.next = some (o, t.stream) := by
  obtain ⟨k, g, hg, rfl⟩ := h
  rcases onNext_cases (finish k) g s with ⟨-, same⟩ | ⟨rest, next, taken⟩ | ⟨-, -, ended⟩ | ⟨b, rest, next, taken⟩
  · exact absurd (by rw [same]) changed
  · exact ⟨.nothing, nofun, by rw [taken, next]⟩
  · exact absurd (by rw [ended, finish_stream]) changed
  · exact ⟨.nibble b, nofun, by rw [taken, hg, next]⟩

/-- Only a turn of a busy block takes an offer (R262, R263). -/
theorem effect_stream {e : Event} {s t : State} (he : Effect e s t) (notConnect : ∀ c, e ≠ .connect c)
    (changed : t.stream ≠ s.stream) :
    e = .turn ∧ s.busy = true ∧ ∃ o, o ≠ Offer.eos ∧ s.stream.next = some (o, t.stream) := by
  cases he with
  | nibbleStep i hr =>
    obtain ⟨hb, -, -⟩ := (runningIn_iff i s).mp hr
    exact ⟨rfl, hb, stream_of_takesOneOffer (nibbleStepOf_takesOneOffer hr) changed⟩
  | command i _ => exact absurd (startOf_stream i (accept _ s)) changed
  | register index v _ _ => exact absurd (writeRegister_stream index v s) changed
  | connect c => exact absurd rfl (notConnect c)
  | nothingToDo _ | illegal _ _ _ _ | ignored _ _ _ _ | noWrite _ _ _ | read _ _ _ | reset => exact absurd rfl changed

/-- Settles O14: taking the event from the agenda leaves the stream alone, and what follows is one of the effects of an event. -/
theorem streamOnlyAdvances : Obligations.StreamOnlyAdvances :=
  ⟨fun s _ h => effect_stream (s := popEvent s) (step_effect h), fun _ _ => next_sticky, fun _ _ _ h => step_cons h⟩

/-! ## A command issued to a busy block (R78, R232) -/

/-- Settles O24: neither the nibble step of a running command nor an acceptance is due. -/
theorem issueWhileBusyIsIgnored : Obligations.IssueWhileBusyIsIgnored := fun _ _ => exec_ignored

end Sys2Proof.Machine
end

section
/-! The image the host assembles (R82): tracks of sixteen slots of 256 bytes. -/

namespace Sys2Proof.Machine

theorem length_flatMap_of_uniform {α : Type} {f : α → List Byte} {n : Nat} {l : List α} (h : ∀ a ∈ l, (f a).length = n) :
    (l.flatMap f).length = l.length * n := by
  rw [List.length_flatMap, List.map_congr_left h, List.map_const', List.sum_replicate, smul_eq_mul]

/-- In a concatenation of parts of n bytes each, the i-th n bytes are part i. -/
theorem slice_flatMap_of_uniform {α : Type} {f : α → List Byte} {n : Nat} {l : List α} (h : ∀ a ∈ l, (f a).length = n) (d : α)
    {i : Nat} (hi : i < l.length) : ((l.flatMap f).drop (n * i)).take n = f (l.getD i d) := by
  induction l generalizing i with
  | nil => simp at hi
  | cons a rest ih =>
    obtain ⟨ha, hrest⟩ := List.forall_mem_cons.mp h
    cases i with
    | zero => simp [← ha]
    | succ i =>
      have next : ((a :: rest).flatMap f).drop (n * (i + 1)) = (rest.flatMap f).drop (n * i) := by
        rw [List.flatMap_cons, Nat.mul_succ, Nat.add_comm, ← List.drop_drop, List.drop_left' ha]
      rw [next, ih hrest (by simpa using hi), List.getD_cons_succ]

theorem sectorFind_mem {map : SectorMap} {k : Byte} {p : List Byte} (h : sectorFind map k = some p) : ∃ e ∈ map, e.2 = p := by
  induction map with
  | nil => cases h
  | cons e rest ih =>
    rw [sectorFind] at h
    split at h
    · exact ⟨e, List.mem_cons_self, by simpa using h⟩
    · obtain ⟨e', he', hp⟩ := ih h
      exact ⟨e', List.mem_cons_of_mem e he', hp⟩

/-- A slot holds 256 bytes, from the map or zeros. -/
theorem length_slot {map : SectorMap} (h : ∀ e ∈ map, e.2.length = 256) (k : Byte) :
    ((sectorFind map k).getD (List.replicate 256 0)).length = 256 := by
  cases hk : sectorFind map k with
  | none => exact List.length_replicate
  | some p =>
    obtain ⟨e, he, rfl⟩ := sectorFind_mem hk
    exact h e he

theorem length_assembleTrack {map : SectorMap} (h : ∀ e ∈ map, e.2.length = 256) : (assembleTrack map).length = 4096 :=
  length_flatMap_of_uniform fun k _ => length_slot h k

/-- Settles O59: a track is its sixteen slots, an image its tracks, each part of one length. -/
theorem assembledImageLayout : Obligations.AssembledImageLayout := by
  refine ⟨rfl, fun map h => ⟨length_assembleTrack h, fun i hi => ?_⟩, fun tracks h => ?_⟩
  · exact slice_flatMap_of_uniform (fun k _ => length_slot h k) 0 hi
  · have uniform : ∀ map ∈ tracks, (assembleTrack map).length = 4096 := fun map hm => length_assembleTrack (h map hm)
    exact ⟨length_flatMap_of_uniform uniform, fun t ht => slice_flatMap_of_uniform uniform [] ht⟩

end Sys2Proof.Machine
end

section
/-! Encodings (R91 to R96, R101 to R107, R113 to R115, R132, R240): the codes of the failure kinds, the command bytes and the illegal
ones, the conformant 4-and-4 pairs and the 6-and-2 alphabet. -/

namespace Sys2Proof.Machine

/-- Settles O5: the code and the severity of each kind. -/
theorem severityOfEachKind : Obligations.SeverityOfEachKind := by
  refine ⟨fun k => ?_, rfl⟩
  cases k <;> decide

/-- Settles O19: the bytes by the fields of each command, the round trip by that of the one byte. -/
theorem legalCommandBytes : Obligations.LegalCommandBytes := by
  refine ⟨rfl, rfl, rfl, rfl, fun i rest => ?_⟩
  rw [encode, List.singleton_append, decode, decodeByte_encodeByte]
  rfl

/-! ## Illegal command bytes (R104) and NOP (R240) -/

/-- R104 (c). -/
theorem withoutMsel_error_iff {msel : BitVec 3} {i : Instr} : (∃ e, withoutMsel msel i = .error e) ↔ msel.toNat ≠ 0 := by
  have zero : msel = 0#3 ↔ msel.toNat = 0 := BitVec.toNat_inj.symm
  by_cases h : msel.toNat = 0 <;> simp [withoutMsel, zero, h]

/-- R104 (d). -/
theorem decodePattern_error_iff {msel : BitVec 3} {f : Pattern → Instr} :
    (∃ e, (decodePattern msel).map f = .error e) ↔ 5 ≤ msel.toNat := by
  unfold decodePattern
  split
  case h_6 =>
    simp only [imp_false] at *
    simp only [Except.map, Except.error.injEq, exists_eq', true_iff]
    omega
  all_goals simp [Except.map, *]

/-- R104 (b) to (d), by the value of OP. -/
theorem decodeOp_error_iff {op : BitVec 4} {msel : BitVec 3} : (∃ e, decodeOp op msel = .error e) ↔
    0xB ≤ op.toNat ∨ (op.toNat ≠ 5 ∧ op.toNat ≠ 6 ∧ msel.toNat ≠ 0) ∨
      ((op.toNat = 5 ∨ op.toNat = 6) ∧ 5 ≤ msel.toNat) := by
  unfold decodeOp
  split
  case h_12 =>
    simp only [imp_false] at *
    simp only [Except.error.injEq, exists_eq', true_iff]
    omega
  all_goals
    simp only [withoutMsel_error_iff, decodePattern_error_iff]
    omega

/-- R104 (a). -/
theorem decodeByte_reserved {v : Byte} (h : v.getLsbD 7 = true) : decodeByte v = .error .reservedBit :=
  if_neg (by decide +revert)

theorem decodeByte_fields {v : Byte} (h : v.getLsbD 7 = false) :
    decodeByte v = decodeOp (v.extractLsb' 0 4) (v.extractLsb' 4 3) :=
  if_pos (by decide +revert)

theorem decodeByte_error_iff {v : Byte} : (∃ e, decodeByte v = .error e) ↔
    v.getLsbD 7 = true ∨ 0xB ≤ v.toNat % 16 ∨ (v.toNat % 16 ≠ 5 ∧ v.toNat % 16 ≠ 6 ∧ v.toNat / 16 % 8 ≠ 0) ∨
      ((v.toNat % 16 = 5 ∨ v.toNat % 16 = 6) ∧ 5 ≤ v.toNat / 16 % 8) := by
  have op : (v.extractLsb' 0 4).toNat = v.toNat % 16 := by simp
  have msel : (v.extractLsb' 4 3).toNat = v.toNat / 16 % 8 := by simp [Nat.shiftRight_eq_div_pow]
  cases h : v.getLsbD 7 with
  | true => simp [decodeByte_reserved h]
  | false => simp [decodeByte_fields h, decodeOp_error_iff, op, msel]

/-- A completion right after the acceptance, RES untouched (R226, R227). -/
theorem finish_accept (k : Kind) (v : Byte) (s : State) : finish k (accept v s) = completed v k 0x00 s := rfl

theorem hostWrite_illegal {v : Byte} {e : Illegal} {s : State} (hb : s.busy = false) (hv : decodeByte v = .error e) :
    hostWrite 0x000 v s = .next (illegalCommand v s) := by
  simp [hostWrite, accessOf, hb, issueByte, hv]

/-- Settles O20: which bytes are illegal, field by field of R102; the counts by decoding the 256 bytes; both completions follow their
acceptance at once. -/
theorem nopAndIllegalCommands : Obligations.NopAndIllegalCommands := by
  refine ⟨fun v => decodeByte_error_iff, by decide +kernel, by decide +kernel, fun s v e rest h hb hv => ?_, fun s hb => ?_⟩
  · rw [step_cons h, ← finish_accept]
    exact hostWrite_illegal hb hv
  · rw [exec_idle .nop hb, ← finish_accept]
    rfl

/-! ## Conformant 4-and-4 pairs (R91, R92, R131, R132) -/

/-- Two bytes with the same bits, even and odd, are the same byte. -/
theorem eq_of_bitPairs {x y : Byte}
    (h : ∀ k < 4, x.getLsbD (2 * k) = y.getLsbD (2 * k) ∧ x.getLsbD (2 * k + 1) = y.getLsbD (2 * k + 1)) : x = y := by
  refine BitVec.eq_of_getLsbD_eq fun i hi => ?_
  obtain ⟨even, odd⟩ := h (i / 2) (by omega)
  obtain he | ho := Nat.mod_two_eq_zero_or_one i
  · rwa [show 2 * (i / 2) = i by omega] at even
  · rwa [show 2 * (i / 2) + 1 = i by omega] at odd

theorem d44_bits (hi lo : Byte) {k : Nat} (hk : k < 4) :
    (d44 hi lo).getLsbD (2 * k) = lo.getLsbD (2 * k) ∧ (d44 hi lo).getLsbD (2 * k + 1) = hi.getLsbD (2 * k) := by
  interval_cases k <;> simp [d44]

theorem encode44_bits (x : Byte) {k : Nat} (hk : k < 4) :
    ((encode44 x).1.getLsbD (2 * k) = x.getLsbD (2 * k + 1) ∧ (encode44 x).1.getLsbD (2 * k + 1) = true) ∧
      (encode44 x).2.getLsbD (2 * k) = x.getLsbD (2 * k) ∧ (encode44 x).2.getLsbD (2 * k + 1) = true := by
  interval_cases k <;> simp [encode44]

/-- The padding bits of a byte are its odd ones (R92). -/
theorem and_padding_iff {x : Byte} : x &&& 0xAA = 0xAA ↔ ∀ k < 4, x.getLsbD (2 * k + 1) = true := by
  decide +revert

theorem conformant44_iff {hi lo : Byte} : conformant44 hi lo = true ↔
    (∀ k < 4, hi.getLsbD (2 * k + 1) = true) ∧ ∀ k < 4, lo.getLsbD (2 * k + 1) = true := by
  rw [conformant44, Bool.and_eq_true, beq_iff_eq, beq_iff_eq, and_padding_iff, and_padding_iff]

theorem conformant44_encode44 (x : Byte) : conformant44 (encode44 x).1 (encode44 x).2 = true :=
  conformant44_iff.mpr ⟨fun _ hk => (encode44_bits x hk).1.2, fun _ hk => (encode44_bits x hk).2.2⟩

theorem d44_encode44 (x : Byte) : d44 (encode44 x).1 (encode44 x).2 = x := by
  refine eq_of_bitPairs fun k hk => ?_
  simp [d44_bits _ _ hk, encode44_bits x hk]

theorem encode44_d44 {hi lo : Byte} (h : conformant44 hi lo = true) : encode44 (d44 hi lo) = (hi, lo) := by
  obtain ⟨padHi, padLo⟩ := conformant44_iff.mp h
  refine Prod.ext (eq_of_bitPairs fun k hk => ?_) (eq_of_bitPairs fun k hk => ?_) <;>
    simp [encode44_bits _ hk, d44_bits hi lo hk, padHi k hk, padLo k hk]

/-- The formula of R132 (d): an even bit of the second byte meets the bit below it of the first, an odd one its data bit. -/
theorem shiftOrAnd_bits (hi lo : Byte) {k : Nat} (hk : k < 4) :
    (((hi <<< 1) ||| 1) &&& lo).getLsbD (2 * k) = ((decide (k = 0) || hi.getLsbD (2 * k - 1)) && lo.getLsbD (2 * k)) ∧
      (((hi <<< 1) ||| 1) &&& lo).getLsbD (2 * k + 1) = (hi.getLsbD (2 * k) && lo.getLsbD (2 * k + 1)) := by
  interval_cases k <;> simp

/-- With the padding bits 1, each data bit meets a 1: a padding bit of the other byte, or the 1 shifted in at bit 0. -/
theorem d44_eq_shiftOrAnd {hi lo : Byte} (h : conformant44 hi lo = true) : d44 hi lo = ((hi <<< 1) ||| 1) &&& lo := by
  obtain ⟨padHi, padLo⟩ := conformant44_iff.mp h
  refine eq_of_bitPairs fun k hk => ?_
  obtain ⟨even, odd⟩ := shiftOrAnd_bits hi lo hk
  have below : (decide (k = 0) || hi.getLsbD (2 * k - 1)) = true := by
    cases k with
    | zero => rfl
    | succ j => exact padHi j (by omega)
  rw [even, odd, below, padLo k hk, Bool.true_and, Bool.and_true]
  exact d44_bits hi lo hk

/-- Settles O26: bit by bit, even and odd. -/
theorem d44OnConformantPairs : Obligations.D44OnConformantPairs :=
  ⟨fun x => ⟨d44_encode44 x, conformant44_encode44 x⟩, fun _ _ h => ⟨d44_eq_shiftOrAnd h, encode44_d44 h⟩⟩

/-! ## The 6-and-2 alphabet (R95, R96) -/

/-- Settles O28: the order along the table, the predicate at each of the 256 bytes. -/
theorem alphabetPredicate : Obligations.AlphabetPredicate :=
  ⟨rfl, by decide, by decide +kernel⟩

end Sys2Proof.Machine
end

section
/-! The codec as functions of bytes (R95, R131, R134, R139 to R141, R145). -/

namespace Sys2Proof.Machine

/-- Settles O25: the formula is the definition; a byte is its bits, even and odd. -/
theorem d44BitByBit : Obligations.D44BitByBit := by
  refine ⟨fun _ _ => rfl, fun hi lo k hk => (d44_bits hi lo hk).symm, fun hi lo hi' lo' same => ?_⟩
  refine eq_of_bitPairs fun k hk => ?_
  obtain ⟨sameHi, sameLo⟩ := same k hk
  rw [(d44_bits hi lo hk).1, (d44_bits hi lo hk).2, (d44_bits hi' lo' hk).1, (d44_bits hi' lo' hk).2]
  exact ⟨sameLo, sameHi⟩

/-! ## The alphabet lookup (R134) -/

theorem alphabet_nodup : alphabet.Nodup := by decide

theorem positionFrom_eq (start : Nat) (b : Byte) (l : List Byte) :
    positionFrom start b l = if b ∈ l then some (start + l.idxOf b) else none := by
  induction l generalizing start with
  | nil => rfl
  | cons a rest ih =>
    by_cases h : a = b
    · simp [positionFrom, h]
    · simp [positionFrom, h, Ne.symm h, ih, List.idxOf_cons_ne _ h, Nat.add_assoc, Nat.add_comm 1]

theorem l62_eq (b : Byte) : l62 b = if b ∈ alphabet then some (BitVec.ofNat 6 (alphabet.idxOf b)) else none := by
  rw [l62, positionFrom_eq]
  split <;> simp

theorem l62_eq_none_iff {b : Byte} : l62 b = none ↔ b ∉ alphabet := by
  simp [l62_eq]

theorem l62_eq_some_iff {b : Byte} {v : Sym} : l62 b = some v ↔ alphabet[v.toNat]? = some b := by
  rw [l62_eq]
  constructor
  · intro h
    split at h
    · rename_i hb
      obtain rfl := Option.some.inj h
      have bound : alphabet.idxOf b < 2 ^ 6 := List.idxOf_lt_length_iff.mpr hb
      rw [BitVec.toNat_ofNat, Nat.mod_eq_of_lt bound]
      exact List.getElem?_idxOf hb
    · cases h
  · intro h
    obtain ⟨hv, rfl⟩ := List.getElem?_eq_some_iff.mp h
    rw [if_pos (List.getElem_mem hv), alphabet_nodup.idxOf_getElem, BitVec.ofNat_toNat, BitVec.setWidth_eq]

/-- Settles O27: the position of a byte in a list without repetitions is where it stands. -/
theorem l62InvertsTheAlphabet : Obligations.L62InvertsTheAlphabet :=
  ⟨fun _ _ => l62_eq_some_iff, fun _ => l62_eq_none_iff, by decide⟩

theorem l62_symbolOf (v : Sym) : l62 (symbolOf v) = some v := by
  have hv : v.toNat < alphabet.length := v.isLt
  rw [l62_eq_some_iff, symbolOf, List.getD_eq_getElem _ _ hv]
  exact List.getElem?_eq_getElem hv

theorem nibbleValue_symbolOf (v : Sym) : nibbleValue (symbolOf v) = v := by
  rw [nibbleValue, l62_symbolOf, Option.getD_some]

/-! ## The result of a decode (R140) -/

theorem decode62_checksum (n : List Byte) : (decode62 n).checksum = (runningValues 0 n).getLastD 0 := rfl

theorem decode62_invalid (n : List Byte) : (decode62 n).invalid = firstInvalid 0 n := rfl

theorem length_decode62_out (n : List Byte) : (decode62 n).out.length = 256 := by
  simp [decode62]

theorem decode62_out_getElem? (n : List Byte) {j : Nat} (hj : j < 256) :
    (decode62 n).out[j]? = some (outputByte (runningValues 0 n) j) := by
  simp [decode62, hj]

/-! ## The auxiliary edge (R141) -/

/-- Regions 0 and 1 of an auxiliary value lie in its bits 3:0. -/
theorem regionBits_congr {t t' : Sym} {r : Nat} (hr : r < 2) (h : t.extractLsb' 0 4 = t'.extractLsb' 0 4) :
    regionBits t r = regionBits t' r := by
  refine BitVec.eq_of_getLsbD_eq fun k hk => ?_
  have same := congrArg (BitVec.getLsbD · (2 * r + k)) h
  have inside : 2 * r + k < 4 := by omega
  simpa [regionBits, inside, hk] using same

/-- Settles O29: an output byte takes bits 5:4 of the auxiliary value j mod 86 only from j = 172 on, so for the values up to 83. -/
theorem auxiliaryEdge : Obligations.AuxiliaryEdge := by
  intro c c' same same84 same85 j hj
  have main : c.getD (86 + j) 0 = c'.getD (86 + j) 0 := same _ (by omega) (by omega)
  have pair : regionBits (c.getD (j % 86) 0) (j / 86) = regionBits (c'.getD (j % 86) 0) (j / 86) := by
    by_cases h84 : j % 86 = 84
    · rw [h84]
      exact regionBits_congr (by omega) same84
    · by_cases h85 : j % 86 = 85
      · rw [h85]
        exact regionBits_congr (by omega) same85
      · rw [same _ h84 h85]
  rw [outputByte, outputByte, main, pair]

/-! ## The conformant encoder (R98, R99, R145) -/

/-- The running XOR of a decode undoes the XOR with the value before that each nibble of an encoding carries. -/
theorem runningValues_symbolsFrom (c : Sym) (values : List Sym) : runningValues c (symbolsFrom c values) = values := by
  induction values generalizing c with
  | nil => rfl
  | cons a rest ih =>
    have value : c ^^^ nibbleValue (symbolOf (a ^^^ c)) = a := by
      rw [nibbleValue_symbolOf, BitVec.xor_comm a, ← BitVec.xor_assoc, BitVec.xor_self, BitVec.zero_xor]
    rw [symbolsFrom, runningValues, value, ih]

theorem firstInvalid_symbolsFrom (start : Nat) (c : Sym) (values : List Sym) : firstInvalid start (symbolsFrom c values) = none := by
  induction values generalizing start c with
  | nil => rfl
  | cons a rest ih => simp [symbolsFrom, firstInvalid, l62_symbolOf, ih]

theorem length_symbolsFrom (c : Sym) (values : List Sym) : (symbolsFrom c values).length = values.length := by
  induction values generalizing c with
  | nil => rfl
  | cons a rest ih => simp [symbolsFrom, ih]

theorem length_fieldValues (d : List Byte) : (fieldValues d).length = 342 := by
  simp [fieldValues]

theorem fieldValues_auxiliary (d : List Byte) {i : Nat} (hi : i < 86) : (fieldValues d).getD i 0 = auxiliaryValue d i := by
  simp [fieldValues, List.getElem?_append_left, hi]

theorem fieldValues_main (d : List Byte) {j : Nat} (hj : j < 256) : (fieldValues d).getD (86 + j) 0 = (d.getD j 0).extractLsb' 2 6 := by
  simp [fieldValues, List.getElem?_append_right, hj]

/-- The three regions of a 6-bit value, from the highest to the lowest (R99). -/
theorem regionBits_append (third second first : BitVec 2) :
    regionBits (third ++ second ++ first) 0 = first ∧ regionBits (third ++ second ++ first) 1 = second ∧
      regionBits (third ++ second ++ first) 2 = third := by
  decide +revert

/-- Region r of the auxiliary value i holds the low pair of byte i + 86 r, where there is such a byte (R99). -/
theorem regionBits_auxiliaryValue (d : List Byte) {i r : Nat} (hr : r < 3) (h : i + 86 * r < 256) :
    regionBits (auxiliaryValue d i) r = lowPair (d.getD (i + 86 * r) 0) := by
  obtain ⟨first, second, third⟩ := regionBits_append (if i + 172 ≤ 255 then lowPair (d.getD (i + 172) 0) else 0)
    (lowPair (d.getD (i + 86) 0)) (lowPair (d.getD i 0))
  interval_cases r
  · exact first
  · exact second
  · exact third.trans (if_pos (by omega))

/-- R139 puts together again what R98 and R99 take apart. -/
theorem payloadByte_lowPair (x : Byte) : payloadByte (x.extractLsb' 2 6) (lowPair x) = x := by
  decide +revert

theorem outputByte_fieldValues (d : List Byte) {j : Nat} (hj : j < 256) : outputByte (fieldValues d) j = d.getD j 0 := by
  have split : j % 86 + 86 * (j / 86) = j := Nat.mod_add_div j 86
  rw [outputByte, fieldValues_main d hj, fieldValues_auxiliary d (by omega), regionBits_auxiliaryValue d (by omega) (by omega),
    split, payloadByte_lowPair]

/-- Settles O30: the running values of an encoding are its field values, the trailing nibble is the symbol of the last. -/
theorem decode62InvertsTheConformantEncoder : Obligations.Decode62InvertsTheConformantEncoder := by
  intro d hd
  have values : runningValues 0 (encode62 d) = fieldValues d := runningValues_symbolsFrom 0 _
  refine ⟨(length_symbolsFrom 0 _).trans (length_fieldValues d), ?_, firstInvalid_symbolsFrom 0 0 _, (fieldValues d).getLastD 0,
    l62_symbolOf _, ?_⟩
  · refine List.ext_getElem? fun j => ?_
    by_cases hj : j < 256
    · rw [decode62_out_getElem? _ hj, values, outputByte_fieldValues d hj, List.getD_eq_getElem _ _ (hd ▸ hj)]
      exact (List.getElem?_eq_getElem _).symm
    · rw [List.getElem?_eq_none (by rw [length_decode62_out]; omega), List.getElem?_eq_none (by omega)]
  · rw [decode62_checksum, values, BitVec.xor_self]
    rfl

end Sys2Proof.Machine
end

section
/-! The codec's commands (R133, R135, R137 to R144, R164 to R168, R227): what an acceptance starts, and one nibble of a decode. -/

namespace Sys2Proof.Machine

/-! ## The acceptances -/

/-- Settles O23: each acceptance is `accept()` and the start of the command's phase and units. -/
theorem streamingCommandsStart : Obligations.StreamingCommandsStart := by
  intro s hb
  have start (i : Instr) := exec_idle i hb
  refine ⟨fun p => ?_, fun p => ?_, start .skip, start .d62, start .rdsec⟩
  · rw [start]
    cases p <;> rfl
  · rw [start]
    cases p <;> rfl

/-- Settles O31: the bits of RES are those of `d44`. -/
theorem d44Completes : Obligations.D44Completes := fun s hb =>
  ⟨d44 s.opa s.opb, fun _ hk => (d44_bits _ _ hk).symm, exec_idle .d44 hb⟩

theorem l62Body_symbol {s : State} {v : Sym} (h : l62 s.opa = some v) :
    l62Body s = finish .ok { s with res := v.setWidth 8 } := by
  rw [l62Body, h]

theorem l62Body_invalid {s : State} (h : l62 s.opa = none) : l62Body s = finish .invalidEncodedByte s := by
  rw [l62Body, h]

/-- Settles O32: the lookup of OPA, which the acceptance leaves as it is. -/
theorem l62Completes : Obligations.L62Completes := by
  intro s hb
  refine ⟨fun v hv => ?_, fun hn => ?_⟩
  · have found : l62 (accept 0x03 s).opa = some v := l62_eq_some_iff.mpr hv
    exact (exec_idle .l62 hb).trans (congrArg Host.Outcome.next (l62Body_symbol found))
  · have missed : l62 (accept 0x03 s).opa = none := l62_eq_none_iff.mpr hn
    exact (exec_idle .l62 hb).trans (congrArg Host.Outcome.next (l62Body_invalid missed))

/-! ## One nibble of a decode (R138, R139, R142) -/

theorem payloadByte_bits (c : Sym) (pair : BitVec 2) : (payloadByte c pair).extractLsb' 2 6 = c ∧
    (payloadByte c pair).getLsbD 0 = pair.getLsbD 1 ∧ (payloadByte c pair).getLsbD 1 = pair.getLsbD 0 := by
  decide +revert

theorem regionBits_bits (t : Sym) (r : Nat) :
    (regionBits t r).getLsbD 0 = t.getLsbD (2 * r) ∧ (regionBits t r).getLsbD 1 = t.getLsbD (2 * r + 1) := by
  simp [regionBits]

/-- An auxiliary nibble writes its entry of TWOS (R138). -/
theorem decodeNibble_auxiliary (n : Byte) {s : State} (h : s.d62Idx.toNat < 86) :
    (decodeNibble n s).twos = s.twos.set s.d62Idx.toNat (s.d62Chk ^^^ nibbleValue n) ∧
      (decodeNibble n s).payload = s.payload := by
  simp [decodeNibble, storeValue, h]

/-- Data nibble 86 + j writes PAYLOAD[j] (R139). -/
theorem decodeNibble_main (n : Byte) {s : State} {j : Nat} (h : s.d62Idx.toNat = 86 + j) (hj : j < 256) :
    (decodeNibble n s).twos = s.twos ∧ (decodeNibble n s).payload = memoryWrite s.payload (payloadIndex j)
      (payloadByte (s.d62Chk ^^^ nibbleValue n) (regionBits s.twos[j % 86] (j / 86))) := by
  have notAuxiliary : ¬ 86 + j < 86 := by omega
  have inField : 86 + j < 342 := by omega
  simp [decodeNibble, storeValue, h, notAuxiliary, inField]

/-- A nibble that is a symbol, or not the first invalid one, leaves the record (R142). -/
theorem decodeNibble_keepsRecord {n : Byte} {s : State} (h : s.inv = true ∨ l62 n ≠ none) :
    (decodeNibble n s).inv = s.inv ∧ (decodeNibble n s).invByte = s.invByte ∧ (decodeNibble n s).invIdx = s.invIdx := by
  rcases checkNibble_cases s.d62Idx n s with ⟨same, -⟩ | ⟨invalid, first, -⟩
  · simp [same]
  · simp [first, invalid] at h

/-- The first invalid nibble is recorded with its index (R142). -/
theorem decodeNibble_records {n : Byte} {s : State} (hinv : s.inv = false) (hn : l62 n = none) :
    (decodeNibble n s).inv = true ∧ (decodeNibble n s).invByte = n ∧ (decodeNibble n s).invIdx = s.d62Idx := by
  rcases checkNibble_cases s.d62Idx n s with ⟨-, kept⟩ | ⟨-, -, recorded⟩
  · simp [hinv, hn] at kept
  · simp [recorded]

/-- Settles O33: the entry by the index of the nibble, the record by its validity, the rest by the frame of a decode step. -/
theorem decodeNibbleWrites : Obligations.DecodeNibbleWrites := by
  intro n s hidx
  obtain ⟨-, -, inputs⟩ := decodeNibble_frame n s
  refine ⟨decodeNibble_d62Chk n s, decodeNibble_count hidx, fun low => ?_, fun high => ?_, decodeNibble_keepsRecord,
    decodeNibble_records, inputs, ?_⟩
  · obtain ⟨twos, payload⟩ := decodeNibble_auxiliary n low
    refine ⟨payload, fun k hk => ?_⟩
    rw [twos, Vector.getElem?_set]
    exact if_congr eq_comm rfl rfl
  · obtain ⟨j, hj⟩ : ∃ j, s.d62Idx.toNat = 86 + j := ⟨_, (Nat.add_sub_of_le high).symm⟩
    obtain ⟨twos, payload⟩ := decodeNibble_main n hj (by omega)
    obtain ⟨value, bit0, bit1⟩ := payloadByte_bits (s.d62Chk ^^^ nibbleValue n) (regionBits s.twos[j % 86] (j / 86))
    obtain ⟨pair0, pair1⟩ := regionBits_bits s.twos[j % 86] (j / 86)
    have entry : (s.twos[j % 86]?).getD 0 = s.twos[j % 86] := by
      rw [Vector.getElem?_eq_getElem (Nat.mod_lt _ (by omega)), Option.getD_some]
    rw [show s.d62Idx.toNat - 86 = j by omega, entry]
    refine ⟨twos, _, fun k => ?_, value, bit0.trans pair1, bit1.trans pair0⟩
    rw [payload, memoryRead_write]
    rfl
  · simp [sameAddressField, sameMatcher, statusByte]

/-- Settles O34: the nibble step of D62 is the decode step, completed where the counter says so. -/
theorem d62ConsumesANibble : Obligations.D62ConsumesANibble := by
  intro s n rest hr hn
  refine ⟨fun hidx => ?_, fun hidx => ?_⟩
  · rw [exec_running hr, nibbleStepOf, d62Step, decodeStep_more hn hidx]
  · rw [exec_running hr, nibbleStepOf, d62Step, decodeStep_last hn hidx, d62Ended]

end Sys2Proof.Machine
end

section
/-! D62 from its issue to its completion (R140, R144, R147): a decode that has consumed some nibbles holds what `decode62` makes of
them, every step of it takes one more, and the last one completes the command. -/

namespace Sys2Proof.Machine

/-! ## Several steps -/

theorem steps_succ {s t : State} (h : step s = .next t) (n : Nat) : steps (n + 1) s = steps n t := by
  rw [steps, h]

theorem steps_add {m : Nat} {s t : State} (h : steps m s = .next t) (n : Nat) : steps (m + n) s = steps n t := by
  induction m generalizing s with
  | zero =>
    obtain rfl := Host.Outcome.next.inj h
    rw [Nat.zero_add]
  | succ m ih =>
    rw [steps] at h
    split at h
    · rename_i u hu
      rw [Nat.add_right_comm, steps_succ hu, ih h]
    all_goals cases h

theorem steps_succ_last {n : Nat} {s t : State} (h : steps n s = .next t) : steps (n + 1) s = step t := by
  rw [steps_add h, steps]
  cases step t <;> rfl

/-! ## One more nibble in a sequence (R140) -/

theorem length_runningValues (c : Sym) (ns : List Byte) : (runningValues c ns).length = ns.length := by
  induction ns generalizing c with
  | nil => rfl
  | cons n rest ih => simp [runningValues, ih]

theorem runningValues_concat (c : Sym) (ns : List Byte) (n : Byte) :
    runningValues c (ns ++ [n]) = runningValues c ns ++ [(runningValues c ns).getLastD c ^^^ nibbleValue n] := by
  induction ns generalizing c with
  | nil => rfl
  | cons m rest ih =>
    rw [List.cons_append, runningValues, runningValues, ih, List.cons_append, List.getLastD_cons]

theorem firstInvalid_concat (start : Nat) (ns : List Byte) (n : Byte) :
    firstInvalid start (ns ++ [n]) =
      (firstInvalid start ns).or (if l62 n = none then some (start + ns.length, n) else none) := by
  induction ns generalizing start with
  | nil => cases h : l62 n <;> simp [firstInvalid, h]
  | cons m rest ih => cases h : l62 m <;> simp [firstInvalid, h, ih, Nat.add_assoc, Nat.add_comm 1]

/-- An output byte whose nibble has come takes nothing from later ones. -/
theorem outputByte_append {values : List Sym} (more : List Sym) {j : Nat} (h : 86 + j < values.length) :
    outputByte (values ++ more) j = outputByte values j := by
  have auxiliary : j % 86 < values.length := by omega
  rw [outputByte, outputByte, List.getD_append _ _ _ _ h, List.getD_append _ _ _ _ auxiliary]

/-- The output byte of the nibble that has just come. -/
theorem outputByte_concat {values : List Sym} (c : Sym) {j : Nat} (h : values.length = 86 + j) :
    outputByte (values ++ [c]) j = payloadByte c (regionBits (values.getD (j % 86) 0) (j / 86)) := by
  have auxiliary : j % 86 < values.length := by omega
  rw [outputByte, List.getD_append _ _ _ _ auxiliary, ← h, List.getD_append_right _ _ _ _ le_rfl, Nat.sub_self, List.getD_cons_zero]

/-! ## The decoder after some nibbles -/

/-- The decoder's registers after the nibbles `ns` of a decode, as R140 computes them. -/
structure DecodedSoFar (ns : List Byte) (s : State) : Prop where
  count : s.d62Idx.toNat = ns.length
  checksum : s.d62Chk = (runningValues 0 ns).getLastD 0
  record : invRecord s = firstInvalid 0 ns
  auxiliary : ∀ (k : Nat) (h : k < 86), k < ns.length → s.twos[k] = (runningValues 0 ns).getD k 0
  output : ∀ j, 86 + j < ns.length → memoryRead s.payload (payloadIndex j) = some (outputByte (runningValues 0 ns) j)

theorem decodedSoFar_startDecode (s : State) : DecodedSoFar [] (startDecode s) := by
  constructor <;> simp [invRecord, runningValues, firstInvalid]

theorem DecodedSoFar.of_same {ns : List Byte} {s t : State} (h : DecodedSoFar ns s) (same : sameDecoder s t) : DecodedSoFar ns t := by
  obtain ⟨chk, byte, idx, inv, payload, twos, count⟩ := same
  constructor
  · exact count ▸ h.count
  · exact chk ▸ h.checksum
  · simpa only [invRecord, byte, idx, inv] using h.record
  · exact twos ▸ h.auxiliary
  · exact payload ▸ h.output

theorem invRecord_decodeNibble (n : Byte) (s : State) :
    invRecord (decodeNibble n s) = (invRecord s).or (if l62 n = none then some (s.d62Idx.toNat, n) else none) := by
  by_cases kept : s.inv = true ∨ l62 n ≠ none
  · obtain ⟨inv, byte, idx⟩ := decodeNibble_keepsRecord kept
    rw [invRecord, inv, byte, idx]
    rcases kept with recorded | symbol <;> simp [invRecord, *]
  · obtain ⟨hinv, hn⟩ := not_or.mp kept
    obtain ⟨inv, byte, idx⟩ := decodeNibble_records (Bool.eq_false_of_not_eq_true hinv) (not_not.mp hn)
    rw [invRecord, inv, byte, idx]
    simp [invRecord, *]

theorem DecodedSoFar.runningValues_next {ns : List Byte} {s : State} (h : DecodedSoFar ns s) (n : Byte) :
    runningValues 0 (ns ++ [n]) = runningValues 0 ns ++ [s.d62Chk ^^^ nibbleValue n] := by
  rw [h.checksum, runningValues_concat]

/-- TWOS after one more nibble (R138). -/
theorem DecodedSoFar.auxiliary_decodeNibble {ns : List Byte} {s : State} (h : DecodedSoFar ns s) (short : ns.length < 342) (n : Byte)
    {k : Nat} (hk : k < 86) (hlt : k < ns.length + 1) :
    (decodeNibble n s).twos[k] = (runningValues 0 (ns ++ [n])).getD k 0 := by
  have length := length_runningValues 0 ns
  rw [h.runningValues_next]
  by_cases low : ns.length < 86
  · obtain ⟨twos, -⟩ := decodeNibble_auxiliary n (h.count ▸ low)
    simp only [twos, Vector.getElem_set, h.count]
    split
    · rename_i last
      rw [← last, ← length, List.getD_append_right _ _ _ _ le_rfl, Nat.sub_self, List.getD_cons_zero]
    · rw [h.auxiliary k hk (by omega), List.getD_append _ _ _ _ (by omega)]
  · obtain ⟨j, hj⟩ : ∃ j, ns.length = 86 + j := ⟨ns.length - 86, by omega⟩
    obtain ⟨twos, -⟩ := decodeNibble_main n (h.count.trans hj) (by omega)
    simp only [twos]
    rw [h.auxiliary k hk (by omega), List.getD_append _ _ _ _ (by omega)]

/-- PAYLOAD after one more nibble (R139). -/
theorem DecodedSoFar.output_decodeNibble {ns : List Byte} {s : State} (h : DecodedSoFar ns s) (short : ns.length < 342) (n : Byte)
    {j : Nat} (hj : 86 + j < ns.length + 1) :
    memoryRead (decodeNibble n s).payload (payloadIndex j) = some (outputByte (runningValues 0 (ns ++ [n])) j) := by
  have length := length_runningValues 0 ns
  obtain ⟨m, hm⟩ : ∃ m, ns.length = 86 + m := ⟨ns.length - 86, by omega⟩
  obtain ⟨-, payload⟩ := decodeNibble_main n (h.count.trans hm) (by omega)
  rw [h.runningValues_next, payload]
  by_cases last : j = m
  · rw [last, memoryRead_write_same, outputByte_concat _ (length.trans hm), h.auxiliary _ (Nat.mod_lt m (by omega)) (by omega)]
  · have other : payloadIndex j ≠ payloadIndex m := by
      unfold payloadIndex
      omega
    rw [memoryRead_write_other _ _ _ _ other, h.output j (by omega), outputByte_append _ (by omega)]

/-- One decode step is one more nibble of the sequence (R138, R139, R142). -/
theorem DecodedSoFar.concat {ns : List Byte} {s : State} (h : DecodedSoFar ns s) (short : ns.length < 342) (n : Byte) :
    DecodedSoFar (ns ++ [n]) (decodeNibble n s) := by
  have length : (ns ++ [n]).length = ns.length + 1 := List.length_append
  constructor
  · rw [decodeNibble_count (h.count ▸ short), h.count, length]
  · rw [h.runningValues_next, List.getLastD_concat, decodeNibble_d62Chk]
  · rw [invRecord_decodeNibble, firstInvalid_concat, h.record, h.count, Nat.zero_add]
  · exact fun k hk hlt => h.auxiliary_decodeNibble short n hk (length ▸ hlt)
  · exact fun j hj => h.output_decodeNibble short n (length ▸ hj)

/-! ## D62, nibble by nibble (R144, R180) -/

theorem nibbleFrame_trans {s t u : State} (h : nibbleFrame s t) (h' : nibbleFrame t u) : nibbleFrame s u := by
  simp only [nibbleFrame, sameInputs] at *
  simp [h', h]

theorem sameAddressField_trans {s t u : State} (h : sameAddressField s t) (h' : sameAddressField t u) : sameAddressField s u := by
  simp only [sameAddressField] at *
  simp [h', h]

/-- `t` is `s` with D62 still running after the nibbles `ns`. -/
structure D62Run (s : State) (ns : List Byte) (t : State) : Prop where
  running : runningIn .d62 t = true
  agenda : t.agenda = []
  res : t.res = 0x00
  decoded : DecodedSoFar ns t
  frame : nibbleFrame s t
  addressField : sameAddressField s t

section
variable {s t : State} {ns : List Byte}

theorem D62Run.step_eq (h : D62Run s ns t) : step t = .next (d62Step t) := by
  rw [step_nil h.agenda, blockTurn_running h.running, exec_running h.running, nibbleStepOf]

theorem D62Run.step_frame (h : D62Run s ns t) : nibbleFrame s (d62Step t) ∧ sameAddressField s (d62Step t) :=
  ⟨nibbleFrame_trans h.frame (nibbleStepOf_frame .d62 t),
    sameAddressField_trans h.addressField (nibbleStepOf_addressField .d62 t nofun)⟩

theorem D62Run.decoded_nibble (h : D62Run s ns t) (short : ns.length < 342) (n : Byte) (rest : Cursor) :
    DecodedSoFar (ns ++ [n]) (decodeNibble n { t with stream := rest }) :=
  (h.decoded.of_same (t := { t with stream := rest }) (sameDecoder_refl t)).concat short n

/-- A nibble before the 342nd leaves D62 running. -/
theorem D62Run.nibble (h : D62Run s ns t) (short : ns.length < 341) {n : Byte} {rest : Cursor}
    (hn : t.stream.next = some (.nibble n, rest)) : D62Run s (ns ++ [n]) (d62Step t) ∧ (d62Step t).stream = rest := by
  obtain ⟨frame, addressField⟩ := h.step_frame
  have stepped : d62Step t = decodeNibble n { t with stream := rest } := decodeStep_more hn (h.decoded.count ▸ short)
  refine ⟨⟨?_, ?_, ?_, ?_, frame, addressField⟩, ?_⟩
  · simpa [stepped, runningIn] using h.running
  · simpa [stepped] using h.agenda
  · simpa [stepped] using h.res
  · rw [stepped]
    exact h.decoded_nibble (by omega) n rest
  · simp [stepped]

/-- As many steps as nibbles, up to 341 of them. -/
theorem D62Run.nibbles (ms : List Byte) {rest : Cursor} (h : D62Run s ns t)
    (hms : t.stream.delivers ms = some rest) (short : ns.length + ms.length ≤ 341) :
    ∃ u, steps ms.length t = .next u ∧ D62Run s (ns ++ ms) u ∧ u.stream = rest := by
  induction ms generalizing ns t with
  | nil =>
    obtain rfl := Option.some.inj hms
    exact ⟨t, rfl, by rwa [List.append_nil], rfl⟩
  | cons n ms ih =>
    rw [List.length_cons] at short ⊢
    obtain ⟨d, hn, hd⟩ := delivers_cons_iff.mp hms
    obtain ⟨next, stream⟩ := h.nibble (by omega) hn
    obtain ⟨u, hu, run, last⟩ := ih next (stream ▸ hd) (by rw [List.length_append, List.length_singleton]; omega)
    refine ⟨u, ?_, by rwa [List.append_cons], last⟩
    rw [steps_succ h.step_eq, hu]

/-- The 342nd nibble ends the decode and with it the command (R143). -/
theorem D62Run.last (h : D62Run s ns t) (full : ns.length = 341) {n : Byte} {rest : Cursor}
    (hn : t.stream.next = some (.nibble n, rest)) :
    ∃ u, d62Step t = d62Ended u ∧ DecodedSoFar (ns ++ [n]) u ∧ u.stream = rest :=
  ⟨decodeNibble n { t with stream := rest }, decodeStep_last hn (h.decoded.count.trans full),
    h.decoded_nibble (by omega) n rest, by simp⟩

theorem D62Run.atEos (h : D62Run s ns t) (ended : t.stream.ended) : step t = .next (exhausted t) := by
  rw [h.step_eq, d62Step, decodeStep, onNext_eos ended]

/-- The failure is that of the INV flag, which is 1 exactly where there is a first invalid nibble (R144). -/
theorem DecodedSoFar.d62Ended_kind (h : DecodedSoFar ns t) :
    (d62Ended t).kind = if (decode62 ns).invalid = none then .ok else .invalidEncodedByte := by
  rw [decode62_invalid, ← h.record]
  cases hinv : t.inv <;> simp [d62Ended, invRecord, hinv]

theorem DecodedSoFar.d62Ended_ok (h : DecodedSoFar ns t) : (d62Ended t).ok = (decode62 ns).invalid.isNone := by
  rw [decode62_invalid, ← h.record]
  cases hinv : t.inv <;> simp [d62Ended, invRecord, hinv]

theorem DecodedSoFar.ended (h : DecodedSoFar ns t) : DecodedSoFar ns (d62Ended t) :=
  h.of_same (sameDecoder_refl t)

/-- A complete decode has written PAYLOAD as `decode62` gives it (R140). -/
theorem DecodedSoFar.payload (h : DecodedSoFar ns t) (complete : ns.length = 342) {j : Nat} (hj : j < 256) :
    memoryRead t.payload (0x100 + j) = (decode62 ns).out[j]? := by
  rw [decode62_out_getElem? ns hj]
  exact h.output j (by omega)

end

/-! ## From the issue to the completion (R147) -/

theorem step_issuing {i : Instr} {s : State} (h : issuing i s) :
    step s = .next (startOf i (accept (encodeByte i) { s with agenda := [] })) := by
  obtain ⟨idle, agenda⟩ := h
  rw [step_cons agenda, ← exec_idle i (s := { s with agenda := [] }) idle]
  exact hostWrite_command idle (decodeByte_encodeByte i)

/-- The state after the acceptance of D62. -/
def d62Accepted (s : State) : State := startOf .d62 (accept (encodeByte .d62) { s with agenda := [] })

theorem d62Run_accepted (s : State) : D62Run (d62Accepted s) [] (d62Accepted s) :=
  ⟨rfl, rfl, rfl, decodedSoFar_startDecode _, nibbleFrame_refl _, rfl, rfl, rfl, rfl⟩

/-- The acceptance and the first nibbles, up to 341 of them. -/
theorem steps_issuing_d62 {s : State} {ns : List Byte} {rest : Cursor} (h : issuing .d62 s)
    (hns : s.stream.delivers ns = some rest) (short : ns.length ≤ 341) :
    ∃ t, steps (ns.length + 1) s = .next t ∧ D62Run (d62Accepted s) ns t ∧ t.stream = rest := by
  obtain ⟨t, ht, run, stream⟩ := (d62Run_accepted s).nibbles ns hns (by simpa using short)
  exact ⟨t, (steps_succ (step_issuing h) _).trans ht, run, stream⟩

/-- Settles O35: the acceptance, a decode step for each nibble, and the completion in the step of the last one or at EOS. -/
theorem d62ComputesDecode62 : Obligations.D62ComputesDecode62 := by
  intro s ns rest h hns
  refine ⟨fun complete => ?_, fun short ended => ?_⟩
  · obtain rfl | ⟨init, n, rfl⟩ := List.eq_nil_or_concat' ns
    · cases complete
    have full : init.length = 341 := by simpa using complete
    obtain ⟨c, hinit, hlast⟩ := (delivers_append_iff init [n]).mp hns
    obtain ⟨d, hn, hd⟩ := delivers_cons_iff.mp hlast
    obtain rfl := Option.some.inj hd
    obtain ⟨t, ht, run, stream⟩ := steps_issuing_d62 h hinit full.le
    obtain ⟨u, ended, decoded, consumed⟩ := run.last full (stream ▸ hn)
    have last : steps 343 s = .next (d62Ended u) := by
      rw [show 343 = init.length + 1 + 1 by omega, steps_succ_last ht, run.step_eq, ended]
    obtain ⟨frame, addressField⟩ := run.step_frame
    rw [ended] at frame addressField
    obtain ⟨cmd, wbusy, inputs⟩ := frame
    have final := decoded.ended
    exact ⟨d62Ended u, last, consumed, rfl, rfl, rfl, wbusy, cmd, decoded.d62Ended_kind, decoded.d62Ended_ok, rfl,
      congrArg (BitVec.setWidth 8) decoded.checksum, final.checksum, final.record, fun j hj => final.payload complete hj,
      addressField, inputs⟩
  · obtain ⟨t, ht, run, stream⟩ := steps_issuing_d62 h hns (by omega)
    have last := (steps_succ_last ht).trans (run.atEos (stream ▸ ended))
    obtain ⟨cmd, wbusy, inputs⟩ := run.frame
    exact ⟨exhausted t, last, stream, rfl, rfl, rfl, rfl, cmd, rfl, rfl, run.res, run.decoded.count, run.addressField, inputs⟩

end Sys2Proof.Machine
end

section
/-! One nibble of the matcher's commands and of each phase of RDSEC (R160 to R180). -/

namespace Sys2Proof.Machine

/-! ## The shapes of a step at the end of the stream -/

theorem seekStep_eos {p : List Byte} {atEos found : State → State} {s : State} {rest : Cursor}
    (h : s.stream.next = some (.eos, rest)) : seekStep p atEos found s = atEos s := by
  rw [seekStep, onNext_eos h]

theorem searchStep_eos {p : List Byte} {found missed : State → State} {s : State} {rest : Cursor}
    (h : s.stream.next = some (.eos, rest)) : searchStep p found missed s = exhausted s := by
  rw [searchStep, onNext_eos h]

theorem pairStep_eos {decoded : Byte → State → State} {s : State} {rest : Cursor}
    (h : s.stream.next = some (.eos, rest)) : pairStep decoded s = exhausted s := by
  rw [pairStep, onNext_eos h]

theorem decodeStep_eos {ended : State → State} {s : State} {rest : Cursor}
    (h : s.stream.next = some (.eos, rest)) : decodeStep ended s = exhausted s := by
  rw [decodeStep, onNext_eos h]

/-! ## The matcher's commands -/

theorem nibbleStepOf_seekOf (p : Pattern) : nibbleStepOf (seekOf p) = seekCommandStep p := by
  cases p <;> rfl

theorem nibbleStepOf_bsrchOf (p : Pattern) : nibbleStepOf (bsrchOf p) = bsrchCommandStep p := by
  cases p <;> rfl

theorem bsrchCommandStep_eos {p : Pattern} {s : State} {rest : Cursor} (h : s.stream.next = some (.eos, rest)) :
    bsrchCommandStep p s = exhausted s := by
  rw [bsrchCommandStep, searchStep_eos h]

theorem skipStep_eos {s : State} {rest : Cursor} (h : s.stream.next = some (.eos, rest)) : skipStep s = exhausted s := by
  rw [skipStep, onNext_eos h]

/-- Settles O36: the running form's nibble step is a step of Seek. -/
theorem seekConsumesANibble : Obligations.SeekConsumesANibble := by
  intro p s hr
  rw [exec_running hr, nibbleStepOf_seekOf]
  exact ⟨fun b rest h => congrArg _ (seekStep_nibble h), fun rest h => congrArg _ (seekStep_eos h)⟩

/-- Settles O38: the running form's nibble step is a step of BSearch. -/
theorem bsrchConsumesANibble : Obligations.BsrchConsumesANibble := by
  intro p s b rest hr h
  rw [exec_running hr, nibbleStepOf_bsrchOf]
  exact congrArg _ (searchStep_nibble h)

/-- Settles O40: SKIP's acceptance, and its one `Next()`. -/
theorem skipConsumesOneNibble : Obligations.SkipConsumesOneNibble := by
  refine ⟨fun s hb => exec_idle .skip hb, fun s b rest hr h => ?_, fun s rest hr h => ?_⟩
  · rw [exec_running hr, nibbleStepOf, skipStep, onNext_nibble h]
  · rw [exec_running hr, nibbleStepOf, skipStep_eos h, exhausted]

/-! ## RDSEC -/

/-- Settles O41: A_PRO is a step of Seek for CFG_APRO0..2. -/
theorem rdsecSeeksTheAddressPrologue : Obligations.RdsecSeeksTheAddressPrologue := by
  intro s hr hp
  rw [exec_running hr, nibbleStepOf, rdsecStep_aPro hp]
  exact ⟨fun b rest h => congrArg _ (seekStep_nibble h), fun rest h => congrArg _ (seekStep_eos h)⟩

theorem rdsecTrackCheck_eq (s : State) :
    rdsecTrackCheck s = if s.afTrk = s.cfgTrack then startPair .aChk s else finish .trackMismatch s := by
  simp [rdsecTrackCheck, trackOk]

/-- Settles O42: a pair's first nibble is latched, the second goes to the pair's register, and after the sector comes the track
check. -/
theorem rdsecReadsTheFieldPairs : Obligations.RdsecReadsTheFieldPairs := by
  intro s b rest hr h
  simp only [exec_running hr, nibbleStepOf]
  refine ⟨fun hp hh => ?_, fun hp hh => ?_, fun hp hh => ?_, fun hp hh track => ?_, fun hp hh track => ?_⟩
  · rcases hp with hp | hp | hp
    · rw [rdsecStep_aVol hp, rdsecAVol, pairStep_first h hh]
    · rw [rdsecStep_aTrk hp, rdsecATrk, pairStep_first h hh]
    · rw [rdsecStep_aSec hp, rdsecASec, pairStep_first h hh]
  · rw [rdsecStep_aVol hp, rdsecAVol, pairStep_second h hh]
    rfl
  · rw [rdsecStep_aTrk hp, rdsecATrk, pairStep_second h hh]
    rfl
  · rw [rdsecStep_aSec hp, rdsecASec, pairStep_second h hh, rdsecTrackCheck_eq]
    exact congrArg _ (if_pos track)
  · rw [rdsecStep_aSec hp, rdsecASec, pairStep_second h hh, rdsecTrackCheck_eq]
    exact congrArg _ (if_neg track)

theorem rdsecAddressCheck_eq (s : State) : rdsecAddressCheck s =
    if s.afChk = s.afVol ^^^ s.afTrk ^^^ s.afSec then startSearch .aEpi s else finish .addrChecksumMismatch s := by
  simp [rdsecAddressCheck, addrOk]

/-- Settles O43: the checksum pair, and the address check in the step of its second nibble. -/
theorem rdsecChecksTheAddress : Obligations.RdsecChecksTheAddress := by
  intro s b rest hr hp h
  rw [exec_running hr, nibbleStepOf, rdsecStep_aChk hp, rdsecAChk]
  refine ⟨fun hh => ?_, fun hh passed => ?_, fun hh failed => ?_⟩
  · rw [pairStep_first h hh]
  · rw [pairStep_second h hh, rdsecAddressCheck_eq]
    exact congrArg _ (if_pos passed)
  · rw [pairStep_second h hh, rdsecAddressCheck_eq]
    exact congrArg _ (if_neg failed)

theorem lastK_one_concat (w : List Byte) (b : Byte) : lastK 1 (w ++ [b]) = [b] := by
  simp [lastK]

/-- One nibble of the search for the sync byte (R174): a window of one byte holds the nibble just read. -/
theorem rdsecDSync_nibble {s : State} {b : Byte} {rest : Cursor} (h : s.stream.next = some (.nibble b, rest)) :
    rdsecDSync s =
      if b = 0xFF then startSearch .dPro { s with stream := rest, win := [0xFF], wcnt := s.wcnt + 1 }
      else if s.window ≤ s.wcnt + 1 then
        finish .dataSyncNotFound { s with stream := rest, win := [b], wcnt := s.wcnt + 1 }
      else { s with stream := rest, win := [b], wcnt := s.wcnt + 1 } := by
  have window : lastK (patternBytes .sync s).length (s.win ++ [b]) = [b] := lastK_one_concat s.win b
  have found : [b] = patternBytes .sync s ↔ b = 0xFF := List.singleton_inj
  rw [rdsecDSync, searchStep_nibble h, window]
  exact if_congr found rfl rfl

theorem rdsecAEpi3_nibble {s : State} {b : Byte} {rest : Cursor} (h : s.stream.next = some (.nibble b, rest)) :
    rdsecAEpi3 s = startSearch .dSync { s with stream := rest } := onNext_nibble h

/-- Settles O44: two steps of BSearch, and the third nibble of the epilogue between them. -/
theorem rdsecSeeksEpilogueAndSync : Obligations.RdsecSeeksEpilogueAndSync := by
  intro s b rest hr h
  simp only [exec_running hr, nibbleStepOf]
  refine ⟨fun hp => ?_, fun hp => ?_, fun hp => ?_⟩
  · rw [rdsecStep_aEpi hp]
    exact congrArg _ (searchStep_nibble h)
  · rw [rdsecStep_aEpi3 hp]
    exact congrArg _ (rdsecAEpi3_nibble h)
  · rw [rdsecStep_dSync hp]
    exact congrArg _ (rdsecDSync_nibble h)

/-- Settles O45: D_PRO is a step of BSearch for CFG_DPRO0..2, and a match starts the decode. -/
theorem rdsecSeeksTheDataPrologue : Obligations.RdsecSeeksTheDataPrologue := by
  intro s b rest hr hp h
  rw [exec_running hr, nibbleStepOf, rdsecStep_dPro hp]
  exact congrArg _ (searchStep_nibble h)

theorem rdsecDataEnded_clear {s : State} (h : s.inv = false) : rdsecDataEnded s = { s with phase := .dChk } := by
  simp [rdsecDataEnded, h]

/-- Settles O46: D_DATA is a step of the decode, which the 342nd nibble ends. -/
theorem rdsecDecodesTheData : Obligations.RdsecDecodesTheData := by
  intro s n rest hr hp h
  rw [exec_running hr, nibbleStepOf, rdsecStep_dData hp, rdsecDData]
  refine ⟨fun more => ?_, fun last recorded => ?_, fun last clear => ?_⟩
  · rw [decodeStep_more h more]
  · rw [decodeStep_last h last, rdsecDataEnded, if_pos recorded]
  · rw [decodeStep_last h last, rdsecDataEnded_clear clear]

theorem rdsecTrailing_invalid {t : Byte} {s : State} (h : l62 t = none) :
    rdsecTrailing t s = finish (trailingInvalidKind s.trailingInvalid) s := by
  rw [rdsecTrailing, h]

theorem rdsecTrailing_symbol {t : Byte} {s : State} {v : Sym} (h : l62 t = some v) :
    rdsecTrailing t s = if s.d62Chk = v then startSearch .dEpi s else finish .dataChecksumMismatch s := by
  simp [rdsecTrailing, h, dataOk]

/-- Settles O47: the alphabet lookup of the trailing nibble, then the comparison with the running checksum. -/
theorem rdsecChecksTheTrailingNibble : Obligations.RdsecChecksTheTrailingNibble := by
  intro s b rest hr hp h
  rw [exec_running hr, nibbleStepOf, rdsecStep_dChk hp, rdsecDChk, onNext_nibble h]
  refine ⟨fun hb kind => ?_, fun hb kind => ?_, fun v hb differs => ?_, fun v hb agrees => ?_⟩
  · rw [rdsecTrailing_invalid hb, kind, trailingInvalidKind]
  · rw [rdsecTrailing_invalid hb, kind, trailingInvalidKind]
  · rw [rdsecTrailing_symbol hb]
    exact congrArg _ (if_neg differs)
  · rw [rdsecTrailing_symbol hb]
    exact congrArg _ (if_pos agrees)

theorem rdsecDEpi3_nibble {s : State} {b : Byte} {rest : Cursor} (h : s.stream.next = some (.nibble b, rest)) :
    rdsecDEpi3 s = finish .ok { s with stream := rest, res := s.afSec } := onNext_nibble h

/-- Settles O48: a step of BSearch, and the third nibble, which ends the attempt. -/
theorem rdsecEndsTheSector : Obligations.RdsecEndsTheSector := by
  intro s b rest hr h
  simp only [exec_running hr, nibbleStepOf]
  refine ⟨fun hp => ?_, fun hp => ?_⟩
  · rw [rdsecStep_dEpi hp]
    exact congrArg _ (searchStep_nibble h)
  · rw [rdsecStep_dEpi3 hp]
    exact congrArg _ (rdsecDEpi3_nibble h)

/-! ## The end of the stream (R180) -/

/-- In each of its phases after the first RDSEC's step is one `Next()` that gives up at EOS. -/
theorem rdsecStep_eos {s : State} {rest : Cursor} (hp : s.phase ∈ phasesOf .rdsec) (first : s.phase ≠ .aPro)
    (h : s.stream.next = some (.eos, rest)) : rdsecStep s = exhausted s := by
  cases hs : s.phase
  case aPro => exact absurd hs first
  case aVol => exact (rdsecStep_aVol hs).trans (pairStep_eos h)
  case aTrk => exact (rdsecStep_aTrk hs).trans (pairStep_eos h)
  case aSec => exact (rdsecStep_aSec hs).trans (pairStep_eos h)
  case aChk => exact (rdsecStep_aChk hs).trans (pairStep_eos h)
  case aEpi => exact (rdsecStep_aEpi hs).trans (searchStep_eos h)
  case aEpi3 => exact (rdsecStep_aEpi3 hs).trans (onNext_eos h)
  case dSync => exact (rdsecStep_dSync hs).trans (searchStep_eos h)
  case dPro => exact (rdsecStep_dPro hs).trans (searchStep_eos h)
  case dData => exact (rdsecStep_dData hs).trans (decodeStep_eos h)
  case dChk => exact (rdsecStep_dChk hs).trans (onNext_eos h)
  case dEpi => exact (rdsecStep_dEpi hs).trans (searchStep_eos h)
  case dEpi3 => exact (rdsecStep_dEpi3 hs).trans (onNext_eos h)
  case idle | xSeek | xBsrch | xSkip | xD62 => simp [hs, phasesOf] at hp

/-- Settles O49: every nibble step but Seek's is one `Next()` that gives up at EOS. -/
theorem endOfStreamExhausts : Obligations.EndOfStreamExhausts := by
  intro i s rest hr h notSeek first
  obtain ⟨-, -, hp⟩ := (runningIn_iff i s).mp hr
  rw [exec_running hr]
  refine congrArg Host.Outcome.next ?_
  cases i
  case nop | d44 | l62 | cka | ckd | ckt => simp [phasesOf] at hp
  case seekApro => exact absurd rfl (notSeek .apro)
  case seekAepi => exact absurd rfl (notSeek .aepi)
  case seekDpro => exact absurd rfl (notSeek .dpro)
  case seekDepi => exact absurd rfl (notSeek .depi)
  case seekSync => exact absurd rfl (notSeek .sync)
  case rdsec => exact rdsecStep_eos hp first h
  case d62 => exact decodeStep_eos h
  case skip => exact skipStep_eos h
  case bsrchApro | bsrchAepi | bsrchDpro | bsrchDepi | bsrchSync => exact bsrchCommandStep_eos h

end Sys2Proof.Machine
end

section
/-! Where a pattern ends in a sequence that grows by a nibble, and what the sliding window then holds (R160 to R162). -/

namespace Sys2Proof.Machine

/-- The pattern ends nowhere in the sequence. -/
def unmatched (p bytes : List Byte) : Prop := ∀ m, endsAt p bytes m = false

/-- The window need not remember more than the window. -/
theorem lastK_shift (k : Nat) (w : List Byte) (b : Byte) : lastK k (lastK k w ++ [b]) = lastK k (w ++ [b]) := by
  cases k with
  | zero => simp [lastK]
  | succ k =>
    have inner : List.rtake (List.rtake w (k + 1)) k = List.rtake w k := by
      simp only [List.rtake, List.drop_drop, List.length_drop]
      congr 1
      omega
    exact (List.rtake_concat_succ _ _ _).trans ((congrArg (· ++ [b]) inner).trans (List.rtake_concat_succ _ _ _).symm)

theorem endsAt_beyond {p bytes : List Byte} {m : Nat} (h : bytes.length < m) : endsAt p bytes m = false := by
  simp [endsAt, Nat.not_le.mpr h]

/-- A further nibble changes nothing about the places before it. -/
theorem endsAt_concat_before {p bytes : List Byte} (b : Byte) {m : Nat} (h : m ≤ bytes.length) :
    endsAt p (bytes ++ [b]) m = endsAt p bytes m := by
  simp [endsAt, List.take_append_of_le_length h, h, Nat.le_succ_of_le h]

/-- At the nibble just read the pattern ends exactly if the window holds it. -/
theorem endsAt_concat_last {p bytes : List Byte} {b : Byte} :
    endsAt p (bytes ++ [b]) (bytes.length + 1) = true ↔ lastK p.length (bytes ++ [b]) = p := by
  have whole : (bytes ++ [b]).take (bytes.length + 1) = bytes ++ [b] := List.take_of_length_le (by simp)
  have long (h : lastK p.length (bytes ++ [b]) = p) : p.length ≤ bytes.length + 1 := by
    have := congrArg List.length h
    simp only [lastK, List.length_drop, List.length_append, List.length_singleton] at this
    omega
  simp only [endsAt, whole, Bool.and_eq_true, decide_eq_true_eq, beq_iff_eq]
  exact ⟨fun h => h.2, fun h => ⟨⟨long h, by simp⟩, h⟩⟩

theorem unmatched_concat_iff {p bytes : List Byte} {b : Byte} :
    unmatched p (bytes ++ [b]) ↔ unmatched p bytes ∧ lastK p.length (bytes ++ [b]) ≠ p := by
  rw [ne_eq, ← endsAt_concat_last, Bool.not_eq_true]
  refine ⟨fun h => ⟨fun m => ?_, h _⟩, fun ⟨before, last⟩ m => ?_⟩
  · rcases Nat.lt_or_ge bytes.length m with beyond | within
    · exact endsAt_beyond beyond
    · exact endsAt_concat_before b within ▸ h m
  · rcases Nat.lt_trichotomy m (bytes.length + 1) with within | rfl | beyond
    · exact (endsAt_concat_before b (Nat.le_of_lt_succ within)).trans (before m)
    · exact last
    · exact endsAt_beyond (by simpa using beyond)

theorem firstEnd_concat_iff {p bytes : List Byte} {b : Byte} :
    firstEnd p (bytes ++ [b]) (bytes ++ [b]).length ↔ unmatched p bytes ∧ lastK p.length (bytes ++ [b]) = p := by
  rw [List.length_append, List.length_singleton, firstEnd, endsAt_concat_last, and_comm]
  refine and_congr_left fun _ => ⟨fun h m => ?_, fun h m hm => ?_⟩
  · rcases Nat.lt_or_ge bytes.length m with beyond | within
    · exact endsAt_beyond beyond
    · exact endsAt_concat_before b within ▸ h m (Nat.lt_succ_of_le within)
  · exact (endsAt_concat_before b (Nat.le_of_lt_succ hm)).trans (h m)

/-- A pattern with a byte in it ends at a last nibble. -/
theorem concat_of_firstEnd {p bytes : List Byte} (hp : p ≠ []) (h : firstEnd p bytes bytes.length) :
    ∃ init b, bytes = init ++ [b] ∧ unmatched p init ∧ lastK p.length (init ++ [b]) = p := by
  obtain rfl | ⟨init, b, rfl⟩ := List.eq_nil_or_concat' bytes
  · obtain ⟨ends, -⟩ := h
    simp [endsAt, hp] at ends
  · exact ⟨init, b, rfl, firstEnd_concat_iff.mp h⟩

theorem patternBytes_ne_nil (p : Pattern) (s : State) : patternBytes p s ≠ [] := by
  cases p <;> simp [patternBytes]

end Sys2Proof.Machine
end

section
/-! Runs of a command over the nibbles of a stream, one in each step (R262), and those of the two searches (R161, R162). -/

namespace Sys2Proof.Machine

/-- After the nibbles `bytes`, one in each step, the state `t` has become `u`, whatever cursor delivers them. -/
def afterNibbles (bytes : List Byte) (t u : State) : Prop :=
  ∀ c d : Cursor, c.delivers bytes = some d → steps bytes.length (connectStream c t) = .next (connectStream d u)

theorem afterNibbles_nil (t : State) : afterNibbles [] t t := by
  intro c d h
  obtain rfl := Option.some.inj h
  rfl

theorem afterNibbles_one {b : Byte} {t u : State}
    (h : ∀ c d, c.next = some (.nibble b, d) → step (connectStream c t) = .next (connectStream d u)) :
    afterNibbles [b] t u := by
  intro c d hd
  obtain ⟨e, he, last⟩ := delivers_cons_iff.mp hd
  obtain rfl := Option.some.inj last
  exact steps_succ (h c e he) 0

theorem afterNibbles.append {xs ys : List Byte} {t u v : State} (h : afterNibbles xs t u) (h' : afterNibbles ys u v) :
    afterNibbles (xs ++ ys) t v := by
  intro c e hc
  obtain ⟨d, hd, he⟩ := (delivers_append_iff xs ys).mp hc
  rw [List.length_append, steps_add (h c d hd), h' d e he]

/-- A turn of the running command (R262). -/
theorem step_running {i : Instr} {s : State} (h : s.agenda = []) (hr : runningIn i s = true) :
    step s = .next (nibbleStepOf i s) := by
  rw [step_nil h, blockTurn_running hr, exec_running hr]

/-! ## Seek (R161) -/

section
variable {t : State} {p bytes : List Byte} {atEos found : State → State}

/-- The steps of `t` are those of Seek, whatever the stream and the window. -/
def seeksIn (t : State) (p : List Byte) (atEos found : State → State) : Prop :=
  ∀ c w, step { t with stream := c, win := w } = .next (seekStep p atEos found { t with stream := c, win := w })

theorem seeksIn.afterNibbles_unmatched (h : seeksIn t p atEos found) (nowhere : unmatched p bytes) :
    afterNibbles bytes { t with win := [] } { t with win := lastK p.length bytes } := by
  induction bytes using List.reverseRecOn with
  | nil =>
    rw [show lastK p.length [] = [] from List.drop_nil]
    exact afterNibbles_nil _
  | append_singleton bytes b ih =>
    obtain ⟨before, last⟩ := unmatched_concat_iff.mp nowhere
    refine (ih before).append (afterNibbles_one fun c d hc => ?_)
    refine (h c _).trans (congrArg _ ((seekStep_nibble hc).trans ?_))
    rw [lastK_shift, if_neg last]
    rfl

theorem seeksIn.afterNibbles_firstEnd (h : seeksIn t p atEos found) (hp : p ≠ []) (first : firstEnd p bytes bytes.length)
    (hfound : ∀ c s, found (connectStream c s) = connectStream c (found s)) :
    afterNibbles bytes { t with win := [] } (found { t with win := p }) := by
  obtain ⟨init, b, rfl, before, last⟩ := concat_of_firstEnd hp first
  refine (h.afterNibbles_unmatched before).append (afterNibbles_one fun c d hc => ?_)
  refine (h c _).trans (congrArg _ ((seekStep_nibble hc).trans ?_))
  rw [lastK_shift, if_pos last]
  exact hfound d { t with win := p }

end

/-! ## BSearch (R162) -/

section
variable {t : State} {p bytes : List Byte} {found missed : State → State}

/-- The steps of `t` are those of BSearch, whatever the stream, the window and the count. -/
def searchesIn (t : State) (p : List Byte) (found missed : State → State) : Prop :=
  ∀ c w n, step { t with stream := c, win := w, wcnt := n } =
    .next (searchStep p found missed { t with stream := c, win := w, wcnt := n })

/-- The count after one more nibble has reached P_WINDOW exactly if that many nibbles have come. -/
theorem window_le_count_iff {window : Byte} {n : Nat} (h : n < window.toNat) :
    window ≤ BitVec.ofNat 8 n + 1 ↔ window.toNat ≤ n + 1 := by
  bv_omega

theorem count_succ (n : Nat) : BitVec.ofNat 8 n + 1 = BitVec.ofNat 8 (n + 1) := by
  simp [BitVec.ofNat_add]

theorem searchesIn.afterNibbles_unmatched (h : searchesIn t p found missed) (nowhere : unmatched p bytes)
    (short : bytes.length < t.window.toNat) :
    afterNibbles bytes { t with win := [], wcnt := 0 }
      { t with win := lastK p.length bytes, wcnt := BitVec.ofNat 8 bytes.length } := by
  induction bytes using List.reverseRecOn with
  | nil =>
    rw [show lastK p.length [] = [] from List.drop_nil]
    exact afterNibbles_nil _
  | append_singleton bytes b ih =>
    rw [List.length_append, List.length_singleton] at *
    obtain ⟨before, last⟩ := unmatched_concat_iff.mp nowhere
    refine (ih before (by omega)).append (afterNibbles_one fun c d hc => ?_)
    refine (h c _ _).trans (congrArg _ ((searchStep_nibble hc).trans ?_))
    have goesOn : ¬ t.window ≤ BitVec.ofNat 8 bytes.length + 1 := by
      rw [window_le_count_iff (by omega)]
      omega
    rw [lastK_shift, if_neg last, if_neg goesOn, count_succ]
    rfl

theorem searchesIn.afterNibbles_firstEnd (h : searchesIn t p found missed) (hp : p ≠ []) (first : firstEnd p bytes bytes.length)
    (within : bytes.length ≤ t.window.toNat)
    (hfound : ∀ c s, found (connectStream c s) = connectStream c (found s)) :
    afterNibbles bytes { t with win := [], wcnt := 0 } (found { t with win := p, wcnt := BitVec.ofNat 8 bytes.length }) := by
  obtain ⟨init, b, rfl, before, last⟩ := concat_of_firstEnd hp first
  rw [List.length_append, List.length_singleton] at *
  refine (h.afterNibbles_unmatched before (by omega)).append (afterNibbles_one fun c d hc => ?_)
  refine (h c _ _).trans (congrArg _ ((searchStep_nibble hc).trans ?_))
  rw [lastK_shift, if_pos last, count_succ]
  exact hfound d { t with win := p, wcnt := BitVec.ofNat 8 (init.length + 1) }

theorem searchesIn.afterNibbles_windowUsedUp (h : searchesIn t p found missed) (nowhere : unmatched p bytes)
    (positive : t.window ≠ 0) (full : bytes.length = t.window.toNat)
    (hmissed : ∀ c s, missed (connectStream c s) = connectStream c (missed s)) :
    afterNibbles bytes { t with win := [], wcnt := 0 } (missed { t with win := lastK p.length bytes, wcnt := t.window }) := by
  obtain rfl | ⟨init, b, rfl⟩ := List.eq_nil_or_concat' bytes
  · exact absurd (BitVec.eq_of_toNat_eq full.symm) positive
  rw [List.length_append, List.length_singleton] at full
  obtain ⟨before, last⟩ := unmatched_concat_iff.mp nowhere
  refine (h.afterNibbles_unmatched before (by omega)).append (afterNibbles_one fun c d hc => ?_)
  refine (h c _ _).trans (congrArg _ ((searchStep_nibble hc).trans ?_))
  have count : BitVec.ofNat 8 init.length + 1 = t.window := by
    rw [count_succ, full, BitVec.ofNat_toNat, BitVec.setWidth_eq]
  rw [lastK_shift, if_neg last, count]
  exact (if_pos (BitVec.le_refl _)).trans (hmissed d { t with win := lastK p.length (init ++ [b]), wcnt := t.window })

end

/-! ## SEEK and BSRCH from the issue to the completion (R165, R166) -/

theorem startOf_seekOf (p : Pattern) : startOf (seekOf p) = seekStart := by
  cases p <;> rfl

theorem startOf_bsrchOf (p : Pattern) : startOf (bsrchOf p) = bsrchStart := by
  cases p <;> rfl

theorem phasesOf_seekOf (p : Pattern) : phasesOf (seekOf p) = [.xSeek] := by
  cases p <;> rfl

theorem phasesOf_bsrchOf (p : Pattern) : phasesOf (bsrchOf p) = [.xBsrch] := by
  cases p <;> rfl

/-- The state after the acceptance of SEEK. -/
def seekAccepted (p : Pattern) (s : State) : State := seekStart (accept (encodeByte (seekOf p)) { s with agenda := [] })

/-- The state after the acceptance of BSRCH. -/
def bsrchAccepted (p : Pattern) (s : State) : State := bsrchStart (accept (encodeByte (bsrchOf p)) { s with agenda := [] })

theorem seeksIn_seekAccepted (p : Pattern) (s : State) :
    seeksIn (seekAccepted p s) (patternBytes p s) (finish .markerNotFound) (finish .ok) := by
  intro c w
  have running : runningIn (seekOf p) { seekAccepted p s with stream := c, win := w } = true := by
    rw [runningIn_iff, phasesOf_seekOf]
    exact ⟨rfl, rfl, List.mem_singleton_self _⟩
  exact (step_running rfl running).trans (by rw [nibbleStepOf_seekOf]; rfl)

theorem searchesIn_bsrchAccepted (p : Pattern) (s : State) :
    searchesIn (bsrchAccepted p s) (patternBytes p s) (fun t => finish .ok { t with res := t.wcnt })
      (fun t => finish .markerNotFound { t with res := t.window }) := by
  intro c w n
  have running : runningIn (bsrchOf p) { bsrchAccepted p s with stream := c, win := w, wcnt := n } = true := by
    rw [runningIn_iff, phasesOf_bsrchOf]
    exact ⟨rfl, rfl, List.mem_singleton_self _⟩
  exact (step_running rfl running).trans (by rw [nibbleStepOf_bsrchOf]; rfl)

theorem steps_issuing_seekOf {p : Pattern} {s : State} (h : issuing (seekOf p) s) (n : Nat) :
    steps (n + 1) s = steps n (seekAccepted p s) := by
  rw [steps_succ (step_issuing h), startOf_seekOf]
  rfl

theorem steps_issuing_bsrchOf {p : Pattern} {s : State} (h : issuing (bsrchOf p) s) (n : Nat) :
    steps (n + 1) s = steps n (bsrchAccepted p s) := by
  rw [steps_succ (step_issuing h), startOf_bsrchOf]
  rfl

/-- Settles O37: the acceptance, the run of Seek, and its one further step where EOS comes first. -/
theorem seekFindsTheFirstOccurrence : Obligations.SeekFindsTheFirstOccurrence := by
  intro p s bytes rest h hd
  have seeks := seeksIn_seekAccepted p s
  have runsOn (nowhere : unmatched (patternBytes p s) bytes) :=
    (steps_issuing_seekOf h _).trans (seeks.afterNibbles_unmatched nowhere _ _ hd)
  refine ⟨by cases p <;> rfl, fun first => ?_, fun nowhere ended => ?_, runsOn⟩
  · exact (steps_issuing_seekOf h _).trans (seeks.afterNibbles_firstEnd (patternBytes_ne_nil p s) first (fun _ _ => rfl) _ _ hd)
  · rw [steps_succ_last (runsOn nowhere)]
    exact (seeks rest _).trans (congrArg _ (seekStep_eos ended))

/-- Settles O39: the acceptance, the run of BSearch, and its one further step where EOS comes first. -/
theorem bsrchSearchesTheWindow : Obligations.BsrchSearchesTheWindow := by
  intro p s bytes rest h positive hd
  have searches := searchesIn_bsrchAccepted p s
  refine ⟨by cases p <;> rfl, fun first within => ?_, fun nowhere full => ?_, fun nowhere short ended => ?_⟩
  · exact (steps_issuing_bsrchOf h _).trans
      (searches.afterNibbles_firstEnd (patternBytes_ne_nil p s) first within (fun _ _ => rfl) _ _ hd)
  · exact (steps_issuing_bsrchOf h _).trans (searches.afterNibbles_windowUsedUp nowhere positive full (fun _ _ => rfl) _ _ hd)
  · rw [steps_succ_last ((steps_issuing_bsrchOf h _).trans (searches.afterNibbles_unmatched nowhere short _ _ hd))]
    exact (searches rest _ _).trans (congrArg _ (searchStep_eos ended))

end Sys2Proof.Machine
end

section
/-! A successful attempt of RDSEC (R168 to R179, R182): what the nibbles of each of its phases make of the state, put end to end. -/

namespace Sys2Proof.Machine

/-- RDSEC has the block, and the block runs on by itself. -/
def attempting (t : State) : Prop := t.busy = true ∧ t.cmd = encodeByte .rdsec ∧ t.agenda = []

/-- A turn of RDSEC is the step of its phase (R181). -/
theorem step_attempting (p : Phase) (phaseStep : State → State) {t : State} (h : attempting t) (hp : t.phase = p)
    (hstep : t.phase = p → rdsecStep t = phaseStep t) (mem : p ∈ phasesOf .rdsec := by decide) :
    step t = .next (phaseStep t) := by
  obtain ⟨busy, cmd, agenda⟩ := h
  rw [← hstep hp]
  exact step_running agenda ((runningIn_iff .rdsec t).mpr ⟨busy, cmd, hp ▸ mem⟩)

section
variable {t : State}

/-! ## The address field (R169 to R173) -/

theorem afterNibbles_addressPrologue {a1 : List Byte} (h : attempting t) (first : firstEnd (patternBytes .apro t) a1 a1.length) :
    afterNibbles a1 (startSearch .aPro t) (startPair .aVol { t with win := patternBytes .apro t, wcnt := 0 }) := by
  have seeks : seeksIn (startSearch .aPro t) (patternBytes .apro t) (finish .addrPrologueNotFound) (startPair .aVol) := fun _ _ =>
    step_attempting .aPro rdsecAPro h rfl rdsecStep_aPro
  exact seeks.afterNibbles_firstEnd (patternBytes_ne_nil _ t) first fun _ _ => rfl

/-- The steps of `t` are those of a pair, whatever the stream and what is held of the pair. -/
def pairsIn (t : State) (decoded : Byte → State → State) : Prop :=
  ∀ c w held, step { t with stream := c, hi := w, hiHeld := held } =
    .next (pairStep decoded { t with stream := c, hi := w, hiHeld := held })

/-- The two nibbles of a pair (R170). -/
theorem pairsIn.afterNibbles_pair {hi lo : Byte} {decoded : Byte → State → State} {u : State} (h : pairsIn t decoded)
    (hdecoded : ∀ c x s, decoded x (connectStream c s) = connectStream c (decoded x s))
    (hu : decoded (d44 hi lo) { t with hi := hi, hiHeld := false } = u) :
    afterNibbles [hi, lo] { t with hiHeld := false } u := by
  subst hu
  have first : afterNibbles [hi] { t with hiHeld := false } { t with hi := hi, hiHeld := true } :=
    afterNibbles_one fun c d hc => (h c t.hi false).trans (congrArg _ (pairStep_first hc rfl))
  refine first.append (afterNibbles_one fun c d hc => ?_)
  exact (h c hi true).trans (congrArg _ ((pairStep_second hc rfl).trans (hdecoded d _ { t with hi := hi, hiHeld := false })))

theorem rdsecTrackCheck_connectStream (c : Cursor) (s : State) :
    rdsecTrackCheck (connectStream c s) = connectStream c (rdsecTrackCheck s) := by
  rw [rdsecTrackCheck_eq s, apply_ite (connectStream c)]
  exact rdsecTrackCheck_eq (connectStream c s)

theorem rdsecAddressCheck_connectStream (c : Cursor) (s : State) :
    rdsecAddressCheck (connectStream c s) = connectStream c (rdsecAddressCheck s) := by
  rw [rdsecAddressCheck_eq s, apply_ite (connectStream c)]
  exact rdsecAddressCheck_eq (connectStream c s)

theorem afterNibbles_volume (h : attempting t) (hi lo : Byte) :
    afterNibbles [hi, lo] (startPair .aVol t) (startPair .aTrk { t with hi := hi, afVol := d44 hi lo }) := by
  have pairs : pairsIn (startPair .aVol t) (fun x s => startPair .aTrk { s with afVol := x }) := fun _ _ _ =>
    step_attempting .aVol rdsecAVol h rfl rdsecStep_aVol
  exact pairs.afterNibbles_pair (fun _ _ _ => rfl) rfl

theorem afterNibbles_track (h : attempting t) (hi lo : Byte) :
    afterNibbles [hi, lo] (startPair .aTrk t) (startPair .aSec { t with hi := hi, afTrk := d44 hi lo }) := by
  have pairs : pairsIn (startPair .aTrk t) (fun x s => startPair .aSec { s with afTrk := x }) := fun _ _ _ =>
    step_attempting .aTrk rdsecATrk h rfl rdsecStep_aTrk
  exact pairs.afterNibbles_pair (fun _ _ _ => rfl) rfl

theorem afterNibbles_sector (h : attempting t) (hi lo : Byte) (track : t.afTrk = t.cfgTrack) :
    afterNibbles [hi, lo] (startPair .aSec t) (startPair .aChk { t with hi := hi, afSec := d44 hi lo }) := by
  have pairs : pairsIn (startPair .aSec t) (fun x s => rdsecTrackCheck { s with afSec := x }) := fun _ _ _ =>
    step_attempting .aSec rdsecASec h rfl rdsecStep_aSec
  exact pairs.afterNibbles_pair (fun c x s => rdsecTrackCheck_connectStream c { s with afSec := x })
    ((rdsecTrackCheck_eq _).trans (if_pos track))

theorem afterNibbles_checksum (h : attempting t) (hi lo : Byte) (checksum : d44 hi lo = t.afVol ^^^ t.afTrk ^^^ t.afSec) :
    afterNibbles [hi, lo] (startPair .aChk t) (startSearch .aEpi { t with hi := hi, hiHeld := false, afChk := d44 hi lo }) := by
  have pairs : pairsIn (startPair .aChk t) (fun x s => rdsecAddressCheck { s with afChk := x }) := fun _ _ _ =>
    step_attempting .aChk rdsecAChk h rfl rdsecStep_aChk
  exact pairs.afterNibbles_pair (fun c x s => rdsecAddressCheck_connectStream c { s with afChk := x })
    ((rdsecAddressCheck_eq _).trans (if_pos checksum))

/-- The state with an address field read; HI keeps the first nibble of its last pair. -/
def withAddress (vol trk sec chk hi : Byte) (t : State) : State :=
  { t with hi := hi, hiHeld := false, afVol := vol, afTrk := trk, afSec := sec, afChk := chk }

/-- The four pairs, where both checks pass. -/
theorem afterNibbles_addressField (h : attempting t) (v1 v2 t1 t2 s1 s2 c1 c2 : Byte) (track : d44 t1 t2 = t.cfgTrack)
    (checksum : d44 c1 c2 = d44 v1 v2 ^^^ d44 t1 t2 ^^^ d44 s1 s2) :
    afterNibbles [v1, v2, t1, t2, s1, s2, c1, c2] (startPair .aVol t)
      (startSearch .aEpi (withAddress (d44 v1 v2) (d44 t1 t2) (d44 s1 s2) (d44 c1 c2) c1 t)) :=
  (afterNibbles_volume h v1 v2).append <| (afterNibbles_track (t := { t with hi := v1, afVol := d44 v1 v2 }) h t1 t2).append <|
    (afterNibbles_sector (t := { t with hi := t1, afVol := d44 v1 v2, afTrk := d44 t1 t2 }) h s1 s2 track).append
    (afterNibbles_checksum (t := { t with hi := s1, afVol := d44 v1 v2, afTrk := d44 t1 t2, afSec := d44 s1 s2 }) h c1 c2 checksum)

theorem afterNibbles_aEpi3 (h : attempting t) (w : List Byte) (n third : Byte) :
    afterNibbles [third] { t with phase := .aEpi3, win := w, wcnt := n } (startSearch .dSync t) :=
  afterNibbles_one fun _ _ hc => Eq.trans (step_attempting .aEpi3 rdsecAEpi3 h rfl rdsecStep_aEpi3)
    (congrArg _ (rdsecAEpi3_nibble hc))

theorem afterNibbles_addressEpilogue {e5 : List Byte} (h : attempting t) (first : firstEnd (patternBytes .aepi t) e5 e5.length)
    (within : e5.length ≤ t.window.toNat) (third : Byte) :
    afterNibbles (e5 ++ [third]) (startSearch .aEpi t) (startSearch .dSync t) := by
  have searches : searchesIn (startSearch .aEpi t) (patternBytes .aepi t) (fun s => { s with phase := .aEpi3 })
      (finish .addrEpilogueNotFound) := fun _ _ _ =>
    step_attempting .aEpi rdsecAEpi h rfl rdsecStep_aEpi
  exact (searches.afterNibbles_firstEnd (patternBytes_ne_nil _ t) first within fun _ _ => rfl).append
    (afterNibbles_aEpi3 h _ _ third)

/-! ## The start of the data field (R174, R175) -/

theorem afterNibbles_sync {e6 : List Byte} (h : attempting t) (first : firstEnd (patternBytes .sync t) e6 e6.length)
    (within : e6.length ≤ t.window.toNat) : afterNibbles e6 (startSearch .dSync t) (startSearch .dPro t) := by
  have searches : searchesIn (startSearch .dSync t) (patternBytes .sync t) (startSearch .dPro) (finish .dataSyncNotFound) :=
    fun _ _ _ => step_attempting .dSync rdsecDSync h rfl rdsecStep_dSync
  exact searches.afterNibbles_firstEnd (patternBytes_ne_nil _ t) first within fun _ _ => rfl

theorem afterNibbles_dataPrologue {e7 : List Byte} (h : attempting t) (first : firstEnd (patternBytes .dpro t) e7 e7.length)
    (within : e7.length ≤ t.window.toNat) :
    afterNibbles e7 (startSearch .dPro t) (startDecode { t with
      phase := .dData, win := patternBytes .dpro t, wcnt := BitVec.ofNat 8 e7.length }) := by
  have searches : searchesIn (startSearch .dPro t) (patternBytes .dpro t) (fun s => startDecode { s with phase := .dData })
      (finish .dataPrologueNotFound) := fun _ _ _ =>
    step_attempting .dPro rdsecDPro h rfl rdsecStep_dPro
  exact searches.afterNibbles_firstEnd (patternBytes_ne_nil _ t) first within fun _ _ => rfl

/-- From the address field to the start of the decode. -/
theorem afterNibbles_upToData {e5 e6 e7 : List Byte} (h : attempting t) (third : Byte)
    (epilogue : firstEnd (patternBytes .aepi t) e5 e5.length) (within5 : e5.length ≤ t.window.toNat)
    (sync : firstEnd (patternBytes .sync t) e6 e6.length) (within6 : e6.length ≤ t.window.toNat)
    (data : firstEnd (patternBytes .dpro t) e7 e7.length) (within7 : e7.length ≤ t.window.toNat) :
    afterNibbles ((e5 ++ [third]) ++ (e6 ++ e7)) (startSearch .aEpi t) (startDecode { t with
      phase := .dData, win := patternBytes .dpro t, wcnt := BitVec.ofNat 8 e7.length }) :=
  (afterNibbles_addressEpilogue h epilogue within5 third).append
    ((afterNibbles_sync h sync within6).append (afterNibbles_dataPrologue h data within7))

end

/-! ## The data nibbles (R176) -/

/-- The decoder after more nibbles. -/
def decodeNibbles (ns : List Byte) (t : State) : State := ns.foldl (fun u n => decodeNibble n u) t

theorem decodeNibbles_concat (ns : List Byte) (n : Byte) (t : State) :
    decodeNibbles (ns ++ [n]) t = decodeNibble n (decodeNibbles ns t) := List.foldl_concat ..

theorem checkNibble_connectStream (i : Idx) (n : Byte) (c : Cursor) (t : State) :
    checkNibble i n (connectStream c t) = connectStream c (checkNibble i n t) := by
  unfold checkNibble recordInvalid
  split
  · rfl
  · rw [apply_ite (connectStream c)]
    rfl

theorem storeValue_connectStream (i : Nat) (v : Sym) (c : Cursor) (t : State) :
    storeValue i v (connectStream c t) = connectStream c (storeValue i v t) := by
  unfold storeValue
  split
  · rfl
  · rw [apply_ite (connectStream c)]
    rfl

/-- A decode step does not see the cursor. -/
theorem decodeNibble_connectStream (n : Byte) (c : Cursor) (t : State) :
    decodeNibble n (connectStream c t) = connectStream c (decodeNibble n t) := by
  unfold decodeNibble
  simp only [checkNibble_connectStream, storeValue_connectStream]
  rfl

theorem decodeStep_connectStream_more {ended : State → State} {c d : Cursor} {n : Byte} {t : State}
    (hc : c.next = some (.nibble n, d)) (hi : t.d62Idx.toNat < 341) :
    decodeStep ended (connectStream c t) = connectStream d (decodeNibble n t) :=
  (decodeStep_more (s := connectStream c t) hc hi).trans (decodeNibble_connectStream n d t)

theorem decodeStep_connectStream_last {ended : State → State} {c d : Cursor} {n : Byte} {t : State}
    (hc : c.next = some (.nibble n, d)) (hi : t.d62Idx.toNat = 341) :
    decodeStep ended (connectStream c t) = ended (connectStream d (decodeNibble n t)) :=
  (decodeStep_last (s := connectStream c t) hc hi).trans (congrArg ended (decodeNibble_connectStream n d t))

theorem DecodedSoFar.decodeNibbles {ns : List Byte} {t : State} (h : DecodedSoFar [] t) (short : ns.length ≤ 342) :
    DecodedSoFar ns (decodeNibbles ns t) := by
  induction ns using List.reverseRecOn with
  | nil => exact h
  | append_singleton ns n ih =>
    rw [List.length_append, List.length_singleton] at short
    exact decodeNibbles_concat ns n t ▸ (ih (by omega)).concat short n

/-- Data nibbles write the decoder's registers only. -/
theorem decodeNibbles_frame (ns : List Byte) (t : State) : nibbleFrame t (decodeNibbles ns t) ∧
    sameAddressField t (decodeNibbles ns t) ∧ (decodeNibbles ns t).busy = t.busy ∧ (decodeNibbles ns t).phase = t.phase := by
  induction ns using List.reverseRecOn with
  | nil => exact ⟨nibbleFrame_refl t, ⟨rfl, rfl, rfl, rfl⟩, rfl, rfl⟩
  | append_singleton ns n ih =>
    obtain ⟨frame, field, busy, phase⟩ := ih
    rw [decodeNibbles_concat, decodeNibble_busy, decodeNibble_phase]
    have kept : sameAddressField (decodeNibbles ns t) (decodeNibble n (decodeNibbles ns t)) := by simp [sameAddressField]
    exact ⟨nibbleFrame_trans frame (decodeNibble_frame n _), sameAddressField_trans field kept, busy, phase⟩

section
variable {t : State}

theorem attempting_decodeNibbles (h : attempting t) (ns : List Byte) : attempting (decodeNibbles ns t) := by
  obtain ⟨⟨cmd, -, inputs⟩, -, busy, -⟩ := decodeNibbles_frame ns t
  simp only [sameInputs] at inputs
  simp only [attempting, cmd, busy, inputs]
  exact h

/-- A data nibble's step is that of a decode, after any nibbles before it. -/
theorem step_dData (h : attempting t) (hp : t.phase = .dData) (ns : List Byte) (c : Cursor) :
    step (connectStream c (decodeNibbles ns t)) = .next (decodeStep rdsecDataEnded (connectStream c (decodeNibbles ns t))) := by
  obtain ⟨-, -, -, phase⟩ := decodeNibbles_frame ns t
  exact step_attempting .dData rdsecDData (attempting_decodeNibbles h ns) (phase.trans hp) rdsecStep_dData

theorem afterNibbles_dData {ns : List Byte} (h : attempting t) (hp : t.phase = .dData) (start : DecodedSoFar [] t)
    (short : ns.length ≤ 341) : afterNibbles ns t (decodeNibbles ns t) := by
  induction ns using List.reverseRecOn with
  | nil => exact afterNibbles_nil t
  | append_singleton ns n ih =>
    rw [List.length_append, List.length_singleton] at short
    have count := (start.decodeNibbles (ns := ns) (by omega)).count
    refine (ih (by omega)).append (afterNibbles_one fun c d hc => (step_dData h hp ns c).trans (congrArg _ ?_))
    rw [decodeStep_connectStream_more hc (by omega), decodeNibbles_concat]

theorem DecodedSoFar.inv_of_allSymbols {ns : List Byte} (h : DecodedSoFar ns t) (symbols : allSymbols ns) : t.inv = false := by
  have record : invRecord t = none := h.record.trans symbols
  simpa [invRecord] using record

/-- The 342 symbols of a sector (R176). -/
theorem afterNibbles_symbols {ns : List Byte} (h : attempting t) (hp : t.phase = .dData) (start : DecodedSoFar [] t)
    (complete : ns.length = 342) (symbols : allSymbols ns) :
    afterNibbles ns t { decodeNibbles ns t with phase := .dChk } := by
  have clear := (start.decodeNibbles complete.le).inv_of_allSymbols symbols
  obtain rfl | ⟨init, n, rfl⟩ := List.eq_nil_or_concat' ns
  · cases complete
  rw [List.length_append, List.length_singleton] at complete
  rw [decodeNibbles_concat] at clear ⊢
  have count := (start.decodeNibbles (ns := init) (by omega)).count
  refine (afterNibbles_dData h hp start (by omega)).append
    (afterNibbles_one fun c d hc => (step_dData h hp init c).trans (congrArg _ ?_))
  exact (decodeStep_connectStream_last hc (by omega)).trans (rdsecDataEnded_clear clear)

/-! ## The end of the data field (R177 to R179) -/

theorem afterNibbles_trailing {tr : Byte} (h : attempting t) (agrees : l62 tr = some t.d62Chk) :
    afterNibbles [tr] { t with phase := .dChk } (startSearch .dEpi t) :=
  afterNibbles_one fun _ _ hc => Eq.trans (step_attempting .dChk rdsecDChk h rfl rdsecStep_dChk)
    (congrArg _ ((onNext_nibble hc).trans ((rdsecTrailing_symbol agrees).trans (if_pos rfl))))

theorem afterNibbles_dEpi3 (h : attempting t) (w : List Byte) (n third : Byte) :
    afterNibbles [third] { t with phase := .dEpi3, win := w, wcnt := n }
      (finish .ok { t with win := w, wcnt := n, res := t.afSec }) :=
  afterNibbles_one fun _ _ hc => Eq.trans (step_attempting .dEpi3 rdsecDEpi3 h rfl rdsecStep_dEpi3)
    (congrArg _ (rdsecDEpi3_nibble hc))

theorem afterNibbles_dataEpilogue {e10 : List Byte} (h : attempting t) (first : firstEnd (patternBytes .depi t) e10 e10.length)
    (within : e10.length ≤ t.window.toNat) (third : Byte) :
    afterNibbles (e10 ++ [third]) (startSearch .dEpi t) (finish .ok { t with
      win := patternBytes .depi t, wcnt := BitVec.ofNat 8 e10.length, res := t.afSec }) := by
  have searches : searchesIn (startSearch .dEpi t) (patternBytes .depi t) (fun s => { s with phase := .dEpi3 })
      (finish .dataEpilogueNotFound) := fun _ _ _ => step_attempting .dEpi rdsecDEpi h rfl rdsecStep_dEpi
  exact (searches.afterNibbles_firstEnd (patternBytes_ne_nil _ t) first within fun _ _ => rfl).append
    (afterNibbles_dEpi3 h _ _ third)

end

/-! ## The whole attempt (R182) -/

/-- The state after the acceptance of RDSEC, but for the search it starts (R168). -/
def rdsecAccepted (s : State) : State := startStreaming .aPro { accept (encodeByte .rdsec) { s with agenda := [] } with
  afVol := 0x00, afTrk := 0x00, afSec := 0x00, afChk := 0x00 }

/-- The nibbles up to the data prologue lead to a decode that begins, with the address field read. -/
theorem afterNibbles_beforeData {s : State} {a1 e5 e6 e7 : List Byte} {v1 v2 t1 t2 s1 s2 c1 c2 : Byte} (x5 : Byte)
    (prologue : firstEnd (patternBytes .apro s) a1 a1.length) (track : d44 t1 t2 = s.cfgTrack)
    (checksum : d44 c1 c2 = d44 v1 v2 ^^^ d44 t1 t2 ^^^ d44 s1 s2)
    (epilogue : firstEnd (patternBytes .aepi s) e5 e5.length) (within5 : e5.length ≤ s.window.toNat)
    (sync : firstEnd (patternBytes .sync s) e6 e6.length) (within6 : e6.length ≤ s.window.toNat)
    (data : firstEnd (patternBytes .dpro s) e7 e7.length) (within7 : e7.length ≤ s.window.toNat) :
    ∃ u, afterNibbles (a1 ++ ([v1, v2, t1, t2, s1, s2, c1, c2] ++ ((e5 ++ [x5]) ++ (e6 ++ e7))))
        (startSearch .aPro (rdsecAccepted s)) u ∧
      attempting u ∧ u.phase = .dData ∧ DecodedSoFar [] u ∧ nibbleFrame (rdsecAccepted s) u ∧
      u.afVol = d44 v1 v2 ∧ u.afTrk = d44 t1 t2 ∧ u.afSec = d44 s1 s2 ∧ u.afChk = d44 c1 c2 := by
  have running : attempting (rdsecAccepted s) := ⟨rfl, rfl, rfl⟩
  have found := afterNibbles_addressPrologue running prologue
  have address := afterNibbles_addressField (t := { rdsecAccepted s with win := patternBytes .apro s, wcnt := 0 }) running
    v1 v2 t1 t2 s1 s2 c1 c2 track checksum
  have dataStart := afterNibbles_upToData (t := withAddress (d44 v1 v2) (d44 t1 t2) (d44 s1 s2) (d44 c1 c2) c1
    { rdsecAccepted s with win := patternBytes .apro s, wcnt := 0 }) running x5 epilogue within5 sync within6 data within7
  exact ⟨_, found.append (address.append dataStart), running, rfl, decodedSoFar_startDecode _, nibbleFrame_refl (rdsecAccepted s),
    rfl, rfl, rfl, rfl⟩

theorem patternBytes_of_sameInputs {s t : State} (p : Pattern) (h : sameInputs s t) : patternBytes p t = patternBytes p s := by
  simp only [sameInputs] at h
  cases p <;> simp [patternBytes, h]

/-- The data field ends the attempt well. -/
theorem afterNibbles_dataField {u : State} {ns e10 : List Byte} {tr : Byte} {v : Sym} (x10 : Byte) (running : attempting u)
    (phase : u.phase = .dData) (start : DecodedSoFar [] u) (complete : ns.length = 342) (symbols : allSymbols ns)
    (trailing : l62 tr = some v) (value : v = (decode62 ns).checksum)
    (epilogue : firstEnd (patternBytes .depi u) e10 e10.length) (within : e10.length ≤ u.window.toNat) :
    ∃ t, afterNibbles (ns ++ ([tr] ++ (e10 ++ [x10]))) u (finish .ok t) ∧
      DecodedSoFar ns t ∧ nibbleFrame u t ∧ sameAddressField u t ∧ t.res = u.afSec := by
  have decoded := start.decodeNibbles complete.le
  obtain ⟨frame, field, -, -⟩ := decodeNibbles_frame ns u
  have ⟨_, _, inputs⟩ := frame
  obtain ⟨window, -⟩ := parameters_of_sameInputs inputs
  have agrees : l62 tr = some (decodeNibbles ns u).d62Chk := by rw [trailing, value, decoded.checksum, decode62_checksum]
  have running' : attempting (decodeNibbles ns u) := attempting_decodeNibbles running ns
  rw [← patternBytes_of_sameInputs .depi inputs] at epilogue
  rw [← window] at within
  refine ⟨_, (afterNibbles_symbols running phase start complete symbols).append
    ((afterNibbles_trailing running' agrees).append (afterNibbles_dataEpilogue running' epilogue within x10)),
    decoded.of_same (sameDecoder_refl _), frame, field, ?_⟩
  obtain ⟨-, -, sector, -⟩ := field
  exact sector

/-- Settles O50: the phases of the attempt, put end to end. -/
theorem rdsecReadsASector : Obligations.RdsecReadsASector := by
  intro s rest a1 e5 e6 e7 ns e10 v1 v2 t1 t2 s1 s2 c1 c2 x5 tr x10 v issued delivered prologue track checksum
    epilogue within5 sync within6 data within7 complete symbols trailing value epilogue' within10
  obtain ⟨u, toData, running, phase, start, frame, vol, trk, sec, chk⟩ := afterNibbles_beforeData x5 prologue track checksum
    epilogue within5 sync within6 data within7
  have ⟨_, _, inputs⟩ := frame
  obtain ⟨window, -⟩ := parameters_of_sameInputs inputs
  obtain ⟨t, toEnd, decoded, frame', ⟨vol', trk', sec', chk'⟩, res⟩ := afterNibbles_dataField x10 running phase start
    complete symbols trailing value (patternBytes_of_sameInputs .depi inputs ▸ epilogue') (window ▸ within10)
  have run := (toData.append toEnd) s.stream rest (by simpa only [List.append_assoc] using delivered)
  obtain ⟨cmd, wbusy, inputs'⟩ := nibbleFrame_trans frame frame'
  refine ⟨connectStream rest (finish .ok t), ?_, rfl, rfl, rfl, rfl, rfl, rfl, wbusy, cmd, rfl, vol'.trans vol, trk'.trans trk,
    sec'.trans sec, chk'.trans chk, res.trans sec, decoded.checksum, decoded.inv_of_allSymbols symbols,
    fun j hj => decoded.payload complete hj, inputs'⟩
  rw [Nat.add_comm, steps_succ (step_issuing issued)]
  refine Eq.trans (congrArg (steps · _) ?_) run
  simp only [List.length_append, List.length_cons, List.length_nil, complete]
  omega

end Sys2Proof.Machine
end

section
/-! The checksum commands (R201 to R206): the three checks as equations, and what each command completes with. -/

namespace Sys2Proof.Machine

/-- R201. -/
theorem addrOk_iff {vol trk sec chk : Byte} : addrOk vol trk sec chk = true ↔ chk = vol ^^^ trk ^^^ sec := beq_iff_eq

/-- R202. -/
theorem trackOk_iff {found expected : Byte} : trackOk found expected = true ↔ found = expected := beq_iff_eq

/-- R203. -/
theorem dataOk_iff {c v : Sym} : dataOk c v = true ↔ c = v := beq_iff_eq

/-- A completion right after the acceptance, with RES written in between (R226, R227). -/
theorem finish_accept_res (k : Kind) (v r : Byte) (s : State) : finish k { accept v s with res := r } = completed v k r s := rfl

/-- Settles O51: the acceptance leaves the operands as they are, and the address check is the comparison with OPD. -/
theorem ckaCompletes : Obligations.CkaCompletes := by
  intro s hb
  rw [exec_idle .cka hb, ← finish_accept_res]
  simp only [startOf, ckaBody, addrOk_iff]
  rfl

theorem ckdBody_symbol {s : State} {v : Sym} (h : l62 s.opa = some v) :
    ckdBody s = finish (if s.d62Chk = v then .ok else .compareMismatch) { s with res := v.setWidth 8 } := by
  simp only [ckdBody, h, dataOk_iff]

theorem ckdBody_invalid {s : State} (h : l62 s.opa = none) : ckdBody s = finish .invalidEncodedByte s := by
  rw [ckdBody, h]

/-- Settles O52: the lookup of OPA comes first, and a symbol's value is compared with the running checksum, which the acceptance
leaves as it is. -/
theorem ckdCompletes : Obligations.CkdCompletes := by
  intro s hb
  refine ⟨fun hn => ?_, fun v hv => ?_⟩
  · have missed : l62 (accept 0x09 s).opa = none := l62_eq_none_iff.mpr hn
    exact (exec_idle .ckd hb).trans (congrArg Host.Outcome.next (ckdBody_invalid missed))
  · have found : l62 (accept 0x09 s).opa = some v := l62_eq_some_iff.mpr hv
    exact (exec_idle .ckd hb).trans (congrArg Host.Outcome.next (ckdBody_symbol found))

/-- Settles O53: the track check is the comparison of OPA with CFG_TRACK, whose XOR is zero exactly where they agree. -/
theorem cktCompletes : Obligations.CktCompletes := by
  refine fun s hb => ⟨?_, BitVec.xor_eq_zero_iff⟩
  rw [exec_idle .ckt hb, ← finish_accept_res]
  simp only [startOf, cktBody, trackOk_iff]
  rfl

end Sys2Proof.Machine
end

section
/-! The assertion of `rst` (R48, R250, R252), and the search that hangs (R161, R169, R264): on an endless stream without the pattern
every turn of a Seek takes what the stream offers and leaves the command where it was. -/

namespace Sys2Proof.Machine

/-! ## Reset -/

/-- The fields `rst` does not take from State.reset are none of R48's stated registers. -/
theorem resetRegisters_assertReset (s : State) : resetRegisters (assertReset s) := resetLeavesTheStatedRegisters

/-- Settles O2: the event is popped, and `rst` puts in State.reset's registers whatever the state was. -/
theorem resetEventRestoresTheRegisters : Obligations.ResetEventRestoresTheRegisters := by
  intro s rest h
  exact ⟨assertReset { s with agenda := rest }, step_cons h, resetRegisters_assertReset _, rfl, rfl, rfl⟩

/-! ## What turns take from a cursor, one after the other -/

theorem taken_ended {c : Cursor} (n : Nat) (h : c.ended) : c.taken n = ([], c) := by
  rw [Cursor.ended] at h
  cases n with
  | zero => rfl
  | succ n => simp [Cursor.taken, h]

/-- What one more turn takes comes after what n turns took. -/
theorem taken_succ (c : Cursor) (n : Nat) :
    c.taken (n + 1) = ((c.taken n).1 ++ ((c.taken n).2.taken 1).1, ((c.taken n).2.taken 1).2) := by
  induction n generalizing c with
  | zero => rfl
  | succ n ih =>
    cases h : c.next with
    | none => simp [taken_waits _ h]
    | some offered =>
      obtain ⟨offer, d⟩ := offered
      cases offer with
      | nibble b => simp [taken_nibble _ h, ih d]
      | nothing => rw [taken_nothing _ h, taken_nothing _ h, ih d]
      | eos =>
        obtain rfl := next_sticky h
        simp [taken_ended _ h]

/-! ## A Seek that never ends (R264) -/

section
variable {t : State} {p : List Byte} {atEos found : State → State}

/-- A turn of Seek that neither meets EOS nor completes the pattern only takes what is offered. -/
theorem seeksIn.step_unmatched (h : seeksIn t p atEos found) {c : Cursor} {bytes : List Byte} (going : ¬ c.ended)
    (nowhere : unmatched p (bytes ++ (c.taken 1).1)) :
    step { t with stream := c, win := lastK p.length bytes } =
      .next { t with stream := (c.taken 1).2, win := lastK p.length (bytes ++ (c.taken 1).1) } := by
  refine (h c _).trans (congrArg _ ?_)
  cases offers : c.next with
  | none => rw [seekStep, onNext_waits offers, taken_waits _ offers, List.append_nil]
  | some offered =>
    obtain ⟨offer, d⟩ := offered
    cases offer with
    | nothing => rw [seekStep, onNext_nothing offers, taken_nothing _ offers, Cursor.taken, List.append_nil]
    | eos =>
      obtain rfl := next_sticky offers
      exact absurd offers going
    | nibble b =>
      rw [taken_nibble _ offers, Cursor.taken] at nowhere ⊢
      obtain ⟨-, last⟩ := unmatched_concat_iff.mp nowhere
      rw [seekStep_nibble offers, lastK_shift, if_neg last]

/-- After every number of turns the search has only moved along its stream. -/
theorem seeksIn.steps_endless (h : seeksIn t p atEos found) (start : t.win = []) (endless : endlessWithout p t.stream) (n : Nat) :
    steps n t = .next { t with stream := (t.stream.taken n).2, win := lastK p.length (t.stream.taken n).1 } := by
  induction n with
  | zero =>
    rw [Cursor.taken, show lastK p.length [] = [] from List.drop_nil, ← start]
    rfl
  | succ n ih =>
    obtain ⟨going, -⟩ := endless n
    obtain ⟨-, nowhere⟩ := endless (n + 1)
    rw [taken_succ] at nowhere ⊢
    rw [steps_succ_last ih, h.step_unmatched going nowhere]

end

theorem runningIn_seekAccepted (p : Pattern) (s : State) : runningIn (seekOf p) (seekAccepted p s) = true := by
  rw [runningIn_iff, phasesOf_seekOf]
  exact ⟨rfl, rfl, List.mem_singleton_self _⟩

/-- Step 1 of RDSEC is a Seek of the address prologue (R169). -/
theorem seeksIn_rdsecAccepted (s : State) : seeksIn (startSearch .aPro (rdsecAccepted s)) (patternBytes .apro s)
    (finish .addrPrologueNotFound) (startPair .aVol) := fun _ _ =>
  step_attempting .aPro rdsecAPro ⟨rfl, rfl, rfl⟩ rfl rdsecStep_aPro

/-- Settles O60: the acceptance, and a Seek that only moves along its stream. -/
theorem endlessSearchNeverEnds : Obligations.EndlessSearchNeverEnds := by
  refine ⟨fun p s issued endless n => ?_, fun s issued endless n => ?_⟩
  · have run := (seeksIn_seekAccepted p s).steps_endless rfl endless n
    exact ⟨_, (steps_issuing_seekOf issued n).trans run, rfl, rfl, rfl, runningIn_seekAccepted p s⟩
  · have run := (seeksIn_rdsecAccepted s).steps_endless rfl endless n
    exact ⟨_, (steps_succ (step_issuing issued) n).trans run, rfl, rfl, rfl, rfl⟩

end Sys2Proof.Machine
end

section
/-! Acceptance, completion and the `done` output (R225 to R227, R231): what the start of a command writes of the status registers, and
which events let `done` fall. -/

namespace Sys2Proof.Machine

/-- Settles O9: exec answers a nibble step, an ignored issue or an acceptance. -/
theorem everyCommandAnswersANextState : Obligations.EveryCommandAnswersANextState := exec_answers

/-- Settles O22: `finish` is that update of the record. -/
theorem completionWrites : Obligations.CompletionWrites := fun _ _ => rfl

/-! ## Acceptance (R227) -/

theorem startOf_cmd (i : Instr) (s : State) : (startOf i s).cmd = s.cmd := by
  obtain ⟨h, -, -⟩ := startOf_frame i s
  exact h

/-- The start of a streaming command sets BUSY and leaves the result registers. -/
theorem startOf_streaming {i : Instr} (s : State) (h : i.streaming = true) :
    (startOf i s).busy = true ∧ (startOf i s).done = s.done ∧ (startOf i s).ok = s.ok ∧ (startOf i s).sev = s.sev ∧
      (startOf i s).kind = s.kind ∧ (startOf i s).res = s.res := by
  have effect := startOf_effect i s
  generalize startOf i s = t at effect
  cases effect with
  | completes _ _ combinational _ =>
    rw [h] at combinational
    cases combinational
  | starts _ _ _ _ _ hu _ _ _ =>
    cases hu
    exact ⟨rfl, rfl, rfl, rfl, rfl, rfl⟩
  | startsDecode => exact ⟨rfl, rfl, rfl, rfl, rfl, rfl⟩

/-- The start of a combinational command completes it. -/
theorem startOf_combinational {i : Instr} (s : State) (h : i.streaming = false) :
    (startOf i s).busy = false ∧ (startOf i s).done = true := by
  have effect := startOf_effect i s
  generalize startOf i s = t at effect
  cases effect with
  | completes => exact ⟨rfl, rfl⟩
  | starts _ _ _ _ _ _ hp _ _ =>
    rw [streaming_of_mem_phasesOf hp] at h
    cases h
  | startsDecode => cases h

/-- Settles O21: in an idle state exec is `accept` and the start of the command, which is all of a combinational one. -/
theorem acceptanceWrites : Obligations.AcceptanceWrites := by
  refine ⟨fun _ _ => rfl, fun i s idle streaming => ?_, fun i s idle combinational => ?_, fun _ _ => rfl⟩
  · obtain ⟨busy, done, ok, sev, kind, res⟩ := startOf_streaming (accept (encodeByte i) s) streaming
    exact ⟨_, exec_idle i idle, startOf_cmd i _, busy, done, ok, sev, startOf_wbusy i _, kind, res⟩
  · obtain ⟨busy, done⟩ := startOf_combinational (accept (encodeByte i) s) combinational
    exact ⟨_, exec_idle i idle, startOf_cmd i _, busy, done, startOf_wbusy i _⟩

/-! ## The `done` output (R231) -/

theorem Consumes.done {s u : State} (h : Consumes s u) : u.done = s.done := by
  cases h
  rfl

/-- A nibble step completes its command or leaves DONE. -/
theorem NibbleEffect.done {i : Instr} {s t : State} (h : NibbleEffect i s t) : t.done = true ∨ t.done = s.done := by
  cases h with
  | completes | completesDecode | succeeds => exact .inl rfl
  | goesOn hu _ | readsField _ _ _ hu _ | acceptsTrack _ hu _ | acceptsAddress _ hu _ _ _ | passes _ hu _ _ | startsDecode hu _ =>
    exact .inr hu.done
  | decodes n hu _ _ | endsDecode n hu _ _ _ => exact .inr ((decodeNibble_done n _).trans hu.done)

/-- What an event can do to DONE: a turn may set it, reset and acceptance may clear it, and nothing else touches it. -/
theorem effect_done {e : Event} {s t : State} (he : Effect e s t) :
    resetOrAcceptance e s ∨ e = .turn ∧ t.done = true ∨ t.done = s.done := by
  cases he with
  | reset => exact .inl (.inl rfl)
  | command i idle => exact .inl (.inr ⟨idle, _, rfl⟩)
  | illegal v _ idle _ => exact .inl (.inr ⟨idle, v, rfl⟩)
  | nibbleStep i hr => exact .inr ((nibbleStepOf_effect hr).done.imp_left fun done => ⟨rfl, done⟩)
  | register index v _ _ => exact .inr (.inr (writeRegister_done index v s))
  | nothingToDo _ | ignored _ _ _ _ | noWrite _ _ _ | read _ _ _ | connect _ => exact .inr (.inr rfl)

/-- Settles O12: the three things an event can do to DONE; a read is none of the first two. -/
theorem doneFallsOnlyAtAcceptanceOrReset : Obligations.DoneFallsOnlyAtAcceptanceOrReset := by
  intro s t hstep
  rcases effect_done (step_effect hstep) with clears | ⟨turn, set⟩ | same
  · refine ⟨fun _ _ => clears, fun read => ?_⟩
    simp [resetOrAcceptance, read] at clears
  · refine ⟨fun _ fell => ?_, fun read => ?_⟩
    · cases set.symm.trans fell
    · cases turn.symm.trans read
  · refine ⟨fun set fell => ?_, fun _ => same⟩
    cases set.symm.trans (same.symm.trans fell)

end Sys2Proof.Machine
end
